-- ==== Sys2Proof/Word.lean ====
section
/-!
DEFINITION. Lanes and lane vectors (spec 10_state.md R19): a lane is a bit vector of 16, 32 or 64 bits, a vector
of `L` lanes is a sequence of them, lane 0 first.
-/

namespace Sys2Proof

/-- A 16-bit lane (R10): a coefficient or a twiddle. -/
abbrev Lane16 := BitVec 16

/-- A 32-bit lane (R10): an intermediate product or a reduction result. -/
abbrev Lane32 := BitVec 32

/-- A 64-bit lane (R61): a double-width product. -/
abbrev Lane64 := BitVec 64

/-- `V16[L]` of the spec's notation: `L` lanes of 16 bits. -/
abbrev V16 (L : Nat) := Vector Lane16 L

/-- `V32[L]` of the spec's notation: `L` lanes of 32 bits. -/
abbrev V32 (L : Nat) := Vector Lane32 L

/-- `V64[L]` of the spec's notation: `L` lanes of 64 bits. -/
abbrev V64 (L : Nat) := Vector Lane64 L

/-- One byte of the caller's stored image of a vector (R32). -/
abbrev Byte := BitVec 8

end Sys2Proof
end

