-- ==== Sys2Proof/Config.lean ====
section
/-!
DEFINITION. The parameters of spec 00_scope.md R12 and of the open-parameter table of
92_eei_decisions.md, and the free values of the model: constants with no body, which no proof can evaluate. The values this hardware takes
are in Machine/Hardware.lean.
-/

namespace Sys2Proof

/-- The width variant of an operation (R3): narrow (16 lanes of 16 bits) or wide (32 lanes of 16 bits). -/
inductive Variant where
  | narrow
  | wide
  deriving DecidableEq, Repr

/-- The function of an operation (R43), in the source's order of presentation. -/
inductive Fn where
  | norm
  | red
  | bfly
  deriving DecidableEq, Repr

/-- The two chains of the Butterfly kernel (R101): branch 1 is fed by W1, branch 2 by W2. -/
inductive Branch where
  | one
  | two
  deriving DecidableEq, Repr

/-- `REDUCER_MODEL` (R12): the step list of R84, or any function meeting the contract of R83 (R94). -/
inductive ReducerModel where
  | datapath
  | contract
  deriving DecidableEq, Repr

/-- The Normalizer's freedom (93_implementation_defined.md U2): the four steps of R71 to R74 on every input, or any
function that meets R70 on its domain. -/
inductive NormModel where
  | datapath
  | contract
  deriving DecidableEq, Repr

/-- `PACK_ORDER` (R67): the lane order of the repacked output. -/
inductive PackOrder where
  | elementInterleave
  | concat
  | block4
  deriving DecidableEq, Repr

/-- `PACK_MODE` (R65, R66): how a 32-bit lane is narrowed to 16 bits. -/
inductive PackMode where
  | trunc
  | ssat
  | usat
  deriving DecidableEq, Repr

/-- The two readings of out-of-domain input (93_implementation_defined.md U1): the datapath value, or any value. -/
inductive DomainReading where
  | determinate
  | conservative
  deriving DecidableEq, Repr

/-- The one input on which the sum of `madd16` leaves 32 bits (93_implementation_defined.md U11): wrap, or any
value. -/
inductive MaddOverflow where
  | wrap
  | any
  deriving DecidableEq, Repr

/-- The parameters of R12 and 92_eei_decisions.md that a model takes as configuration fields. The modulus is not
one of them (`Config.Q`), and neither are the lane counts, which the variant fixes (R9). -/
structure Config where
  /-- `M`, the reduction constant (R8). -/
  m : BitVec 32
  /-- `WIDEN_SIGNED` (R61, R95): the widening multiply reads its operands as signed. -/
  widenSigned : Bool
  /-- `REDUCER_MODEL` (R84, R94). -/
  reducerModel : ReducerModel
  /-- `PACK_ORDER_N` (R67). -/
  packOrderN : PackOrder
  /-- `PACK_ORDER_W` (R67). -/
  packOrderW : PackOrder
  /-- `PACK_MODE_N` (R106). -/
  packModeN : PackMode
  /-- `PACK_MODE_W` (R106). -/
  packModeW : PackMode
  /-- `RED_BOUND` (R11). -/
  redBound : Nat
  /-- Which reading of 93_implementation_defined.md U1 holds. -/
  domainReading : DomainReading
  /-- Which treatment of 93_implementation_defined.md U2 holds. -/
  normModel : NormModel
  /-- Which treatment of 93_implementation_defined.md U11 holds. -/
  maddOverflow : MaddOverflow
  deriving DecidableEq, Repr

/-- FREE VALUE (R94): which of the three representatives in [-q, 2q) the CONTRACT Reducer returns for a lane in RedDom.
The Reducer of R94 is one function of the lane, the same in both variants. -/
opaque Config.reducerChoice : Lane32 → Fin 3

/-- FREE VALUE (R94 "nothing outside RedDom"): what the CONTRACT Reducer returns for a lane outside RedDom. -/
opaque Config.reducerOutside : Lane32 → Lane32

/-- FREE VALUE (U2): what a Normalizer of which only the contract is assumed gives for a lane outside NormDom; `norm` is
one function of the lane, the same in both variants. -/
opaque Config.normOutside : Lane32 → Lane32

/-- FREE VALUE (U1, conservative reading): the result lane of a variant's Normalizer for a lane outside NormDom. -/
opaque Config.normAny : Variant → Lane32 → Lane32

/-- FREE VALUE (U1, conservative reading): the result lane of a variant's Reducer for a lane outside RedDom. -/
opaque Config.redAny : Variant → Lane32 → Lane32

/-- FREE VALUE (U1, conservative reading): the result lane of a branch for an input lane pair outside BflyDom, as a function of the
variant, the branch, the two lanes of X and the two lanes of the branch's twiddle vector. -/
opaque Config.bflyAny : Variant → Branch → Lane16 → Lane16 → Lane16 → Lane16 → Lane16

/-- FREE VALUE (U11): the `madd16` lane when all four inputs are -32768; `madd16` is one primitive (R64), the same in
both variants. -/
opaque Config.maddAny : Lane32

/-- FREE VALUE (R143): one less than the latency of an operation. -/
opaque Config.latencyLess1 : Variant → Fn → Nat

/-- `LATENCY(op)` (R143): a positive integer that depends on the operation and the variant only. No step reads it. -/
def Config.latency (v : Variant) (f : Fn) : Nat := Config.latencyLess1 v f + 1

end Sys2Proof
end

