-- ==== Sys2Proof/Machine/Domains.lean ====
section
/-!
DEFINITION. The domain predicates of spec 00_scope.md R11. The datapath never checks them (60_exceptions.md R121);
they bound theorems, and the conservative reading of out-of-domain input (93_implementation_defined.md U1).
-/

namespace Sys2Proof.Machine

open Sys2Proof

/-- `Canon` on a value (R11): the canonical range [0, q). -/
abbrev CanonInt (z : Int) : Prop := 0 ≤ z ∧ z < 3329

/-- `Canon` on a 16-bit lane (R11). -/
abbrev Canon16 (x : Lane16) : Prop := CanonInt x.toInt

/-- `NormDom` on a value (R11): [-q, 2q). -/
abbrev NormDomInt (z : Int) : Prop := -3329 ≤ z ∧ z ≤ 6657

/-- `NormDom` on a lane (R11). -/
abbrev NormDom (r : Lane32) : Prop := NormDomInt r.toInt

/-- `RedDom` on a lane (R11), for a bound `RED_BOUND`. -/
abbrev RedDom (bound : Nat) (r : Lane32) : Prop := -(bound : Int) ≤ r.toInt ∧ r.toInt ≤ bound

/-- Every lane of a coefficient or twiddle vector is canonical. -/
abbrev CanonVec {L : Nat} (x : V16 L) : Prop := ∀ i : Fin L, Canon16 x[i]

/-- `BflyDom` (R11): every lane of the three operands is canonical. -/
abbrev BflyDom {L : Nat} (x w1 w2 : V16 L) : Prop := CanonVec x ∧ CanonVec w1 ∧ CanonVec w2

/-- `BflyDom` on the lanes one `madd16` lane reads (R107). -/
abbrev PairDom (x0 x1 w0 w1 : Lane16) : Prop := Canon16 x0 ∧ Canon16 x1 ∧ Canon16 w0 ∧ Canon16 w1

end Sys2Proof.Machine
end

