-- ==== Sys2Proof/Machine/Hardware.lean ====
section
/-!
DEFINITION. The constants of this hardware and the values its parameters take (spec 00_scope.md R7, R8, R12;
10_state.md R28; 92_eei_decisions.md).
-/

namespace Sys2Proof

/-- The field modulus q (R7). -/
def Config.Q : Nat := 3329

/-- The literal the source prints for M, the hardware's value (R8; 90_conflicts.md C1). -/
def Config.mLiteral : BitVec 32 := 1290515#32

/-- `M_FORMULA`, the value of floor(2^32 / q), kept as the named alternative (R8). -/
def Config.mFormula : BitVec 32 := 1290167#32

/-- The parameter values this hardware takes (R12, R28). -/
def Config.hardware : Config where
  m := Config.mLiteral
  widenSigned := false
  reducerModel := .datapath
  packOrderN := .elementInterleave
  packOrderW := .elementInterleave
  packModeN := .ssat
  packModeW := .trunc
  redBound := 22164482
  domainReading := .determinate
  normModel := .datapath
  maddOverflow := .wrap

/-- `PACK_ORDER` of a variant (R12). -/
def Config.packOrder (c : Config) : Variant → PackOrder
  | .narrow => c.packOrderN
  | .wide => c.packOrderW

/-- `PACK_MODE` of a variant (R12). -/
def Config.packMode (c : Config) : Variant → PackMode
  | .narrow => c.packModeN
  | .wide => c.packModeW

end Sys2Proof
end

