-- ==== Sys2Proof/Machine/Lanes.lean ====
section
/-!
DEFINITION. The lane primitives of spec 40_lane_primitives.md: each scalar law on one lane, in the spec's own integer
form (compute exactly over the integers, then narrow), and the lane-vector operation that applies it.
-/

namespace Sys2Proof.Machine

open Sys2Proof

/-- `wrap_16` (00_scope.md section 4): the 16-bit lane congruent to an integer modulo 2^16. -/
def wrap16 (z : Int) : Lane16 := BitVec.ofInt 16 z

/-- `wrap_32` and `lo_32` (00_scope.md section 4): the 32-bit lane congruent to an integer modulo 2^32. -/
def wrap32 (z : Int) : Lane32 := BitVec.ofInt 32 z

/-- One lane of `add32` (R54). -/
def addLane (a b : Lane32) : Lane32 := wrap32 (a.toInt + b.toInt)

/-- One lane of `sub32` (R55). -/
def subLane (a b : Lane32) : Lane32 := wrap32 (a.toInt - b.toInt)

/-- One lane of `sra32` (R56): the floor of the signed value over 2^k. -/
def sraLane (a : Lane32) (k : Nat) : Lane32 := wrap32 (a.toInt / (2 : Int) ^ k)

/-- One lane of `and32` (R57). -/
def andLane (a b : Lane32) : Lane32 := a &&& b

/-- One lane of `andnot32` (R58): the complement is taken of the first operand. -/
def andnotLane (m a : Lane32) : Lane32 := ~~~m &&& a

/-- One lane of `mullo32` (R60). -/
def mulloLane (a b : Lane32) : Lane32 := wrap32 (a.toInt * b.toInt)

/-- The exact 64-bit product of the widening multiply (R61), unsigned or, with `WIDEN_SIGNED`, signed. -/
def mulwideLane (signed : Bool) (a c : Lane32) : Lane64 :=
  if signed then BitVec.ofInt 64 (a.toInt * c.toInt) else BitVec.ofNat 64 (a.toNat * c.toNat)

/-- Bits [63:32] of a double-width product (R62). -/
def highHalf (p : Lane64) : Lane32 := p.extractLsb' 32 32

/-- One lane of `mulhi32` (R63): the high 32 bits of the 64-bit product. -/
def mulhiLane (signed : Bool) (a c : Lane32) : Lane32 := highHalf (mulwideLane signed a c)

/-- The one input on which the sum of `madd16` leaves the 32-bit range (R64): all four lanes -32768. -/
def maddOverflows (x0 x1 w0 w1 : Lane16) : Bool :=
  x0 == 0x8000#16 && x1 == 0x8000#16 && w0 == 0x8000#16 && w1 == 0x8000#16

/-- One lane of `madd16` (R64): both products signed and exact, the sum wrapped; the parameter of U11 may leave the
one overflowing input free. -/
def maddLane (c : Config) (x0 x1 w0 w1 : Lane16) : Lane32 :=
  if c.maddOverflow = .any ∧ maddOverflows x0 x1 w0 w1 = true then Config.maddAny
  else wrap32 (x0.toInt * w0.toInt + x1.toInt * w1.toInt)

/-- `narrow_trunc` (R65): the low 16 bits. -/
def narrowTrunc (v : Lane32) : Lane16 := v.extractLsb' 0 16

/-- `narrow_ssat` (R66): signed saturation to [-32768, 32767]. -/
def narrowSsat (v : Lane32) : Lane16 := wrap16 (max (-32768) (min 32767 v.toInt))

/-- `narrow_usat` (R66, the named alternative): saturation to [0, 65535]. -/
def narrowUsat (v : Lane32) : Lane16 := wrap16 (max 0 (min 65535 v.toInt))

/-- The narrowing of a pack mode (R67). -/
def narrowLane : PackMode → Lane32 → Lane16
  | .trunc => narrowTrunc
  | .ssat => narrowSsat
  | .usat => narrowUsat

/-- Apply a one-operand lane law to every lane (R53: lanes are computed independently). -/
def mapLanes {α β : Type} {L : Nat} (f : α → β) (a : Vector α L) : Vector β L := Vector.ofFn fun i => f a[i]

/-- Apply a two-operand lane law to every lane. -/
def mapLanes₂ {α β γ : Type} {L : Nat} (f : α → β → γ) (a : Vector α L) (b : Vector β L) : Vector γ L :=
  Vector.ofFn fun i => f a[i] b[i]

/-- `splat_L` (R59): every lane the same constant. -/
def splat {α : Type} (L : Nat) (x : α) : Vector α L := Vector.ofFn fun _ => x

/-- `add32` (R54). -/
def add32 {L : Nat} (a b : V32 L) : V32 L := mapLanes₂ addLane a b

/-- `sub32` (R55). -/
def sub32 {L : Nat} (a b : V32 L) : V32 L := mapLanes₂ subLane a b

/-- `sra32` (R56). -/
def sra32 {L : Nat} (a : V32 L) (k : Nat) : V32 L := mapLanes (fun x => sraLane x k) a

/-- `and32` (R57). -/
def and32 {L : Nat} (a b : V32 L) : V32 L := mapLanes₂ andLane a b

/-- `andnot32` (R58). -/
def andnot32 {L : Nat} (m a : V32 L) : V32 L := mapLanes₂ andnotLane m a

/-- `mullo32` (R60). -/
def mullo32 {L : Nat} (a b : V32 L) : V32 L := mapLanes₂ mulloLane a b

/-- `mulhi32` (R63). -/
def mulhi32 {L : Nat} (signed : Bool) (a : V32 L) (c : Lane32) : V32 L := mapLanes (fun x => mulhiLane signed x c) a

/-- `mulwide_even` (R61): the exact products of the even-indexed lanes; `L = 2 * n`. -/
def mulwideEven {L n : Nat} (h : L = 2 * n) (signed : Bool) (a : V32 L) (c : Lane32) : V64 n :=
  Vector.ofFn fun k => mulwideLane signed (a[2 * k.val]'(by omega)) c

/-- `mulwide_odd` (R61): the exact products of the odd-indexed lanes. -/
def mulwideOdd {L n : Nat} (h : L = 2 * n) (signed : Bool) (a : V32 L) (c : Lane32) : V64 n :=
  Vector.ofFn fun k => mulwideLane signed (a[2 * k.val + 1]'(by omega)) c

/-- `recombine_hi` (R62): the high halves back in the lanes they came from. -/
def recombineHi {L n : Nat} (h : L = 2 * n) (pe po : V64 n) : V32 L :=
  Vector.ofFn fun i =>
    if i.val % 2 = 0 then highHalf (pe[i.val / 2]'(by omega)) else highHalf (po[i.val / 2]'(by omega))

/-- `madd16` (R64): pairwise multiply and adjacent-pair add, halving the lane count. -/
def madd16 {m n : Nat} (h : m = 2 * n) (c : Config) (x w : V16 m) : V32 n :=
  Vector.ofFn fun i =>
    maddLane c (x[2 * i.val]'(by omega)) (x[2 * i.val + 1]'(by omega)) (w[2 * i.val]'(by omega))
      (w[2 * i.val + 1]'(by omega))

/-- `ELEMENT_INTERLEAVE` (R67): `y[2i]` from the first vector's lane i, `y[2i+1]` from the second's. -/
def interleave {m n : Nat} (h : m = 2 * n) (y1 y2 : V16 n) : V16 m :=
  Vector.ofFn fun j =>
    if j.val % 2 = 0 then y1[j.val / 2]'(by omega) else y2[j.val / 2]'(by omega)

/-- `a ++ b` of the spec's notation and `CONCAT` (R67): the lanes of the first vector, then those of the second. -/
def concatLanes {α : Type} {m n : Nat} (h : m = 2 * n) (y1 y2 : Vector α n) : Vector α m :=
  Vector.ofFn fun j => if hj : j.val < n then y1[j.val]'hj else y2[j.val - n]'(by omega)

/-- `BLOCK4` (R67): in each block of eight output lanes, four lanes of the first vector, then four of the second. -/
def block4 {m n : Nat} (h : m = 2 * n) (h4 : n % 4 = 0) (y1 y2 : V16 n) : V16 m :=
  Vector.ofFn fun j =>
    if j.val % 8 < 4 then y1[4 * (j.val / 8) + j.val % 4]'(by omega)
    else y2[4 * (j.val / 8) + j.val % 4]'(by omega)

/-- The lane order of the repacked output (R67, parameter `PACK_ORDER`). -/
def arrange {m n : Nat} (h : m = 2 * n) (h4 : n % 4 = 0) (o : PackOrder) (y1 y2 : V16 n) : V16 m :=
  match o with
  | .elementInterleave => interleave h y1 y2
  | .concat => concatLanes h y1 y2
  | .block4 => block4 h h4 y1 y2

/-- `pack` (R67): narrow every lane, then arrange. -/
def pack {m n : Nat} (h : m = 2 * n) (h4 : n % 4 = 0) (o : PackOrder) (mode : PackMode) (n1 n2 : V32 n) : V16 m :=
  arrange h h4 o (mapLanes (narrowLane mode) n1) (mapLanes (narrowLane mode) n2)

end Sys2Proof.Machine
end

