-- ==== Sys2Proof/Machine/Flags.lean ====
section
/-!
DEFINITION. The block has no flags (spec 10_state.md R25): no operation writes a status bit, and a saturating pack
records nothing. Where another machine would test a flag, this one makes a full-lane mask, a temporary of one
transaction (R22): the sign mask of R71 and R73 and the two selections by a mask of R72 and R74.
-/

namespace Sys2Proof.Machine

open Sys2Proof

/-- All-ones where the lane is negative and all-zero otherwise: the arithmetic right shift by 31 (R71, R73). -/
def signMask (t : Lane32) : Lane32 := sraLane t 31

/-- The constant where the mask is all-zero, and 0 where it is all-ones (R72). -/
def whereClear (mask x : Lane32) : Lane32 := andnotLane mask x

/-- The constant where the mask is all-ones, and 0 where it is all-zero (R74). -/
def whereSet (mask x : Lane32) : Lane32 := andLane x mask

end Sys2Proof.Machine
end

