-- ==== Sys2Proof/Syntax.lean ====
section
/-!
DEFINITION. The six operations (spec 30_encoding.md R43) over the caller's variables (10_state.md R29), the line of a
program (R49), and the names of the caller's variables.
-/

namespace Sys2Proof

/-- The number of a caller variable in its file of eight (R29). -/
abbrev VarNo := Fin 8

/-- The name of a caller variable (R29): `a0..a7`, `r0..r7` in variant N, `A0..A7`, `R0..R7` in variant W. -/
inductive VarRef where
  | a (k : VarNo)
  | r (k : VarNo)
  | wideA (k : VarNo)
  | wideR (k : VarNo)
  deriving DecidableEq, Repr

/-- The operations of R43 with the variables R49 names on their line. -/
inductive Instr where
  /-- `NORM.N rd, rs` (R80). -/
  | normN (rd rs : VarNo)
  /-- `RED.N rd, rs` (R96). -/
  | redN (rd rs : VarNo)
  /-- `BFLY.N ax, aw1, aw2` (R115); `ax` is source and destination. -/
  | bflyN (ax aw1 aw2 : VarNo)
  /-- `NORM.W Rd, Rs` (R81). -/
  | normW (rd rs : VarNo)
  /-- `RED.W Rd, Rs` (R97). -/
  | redW (rd rs : VarNo)
  /-- `BFLY.W Ax, Aw1, Aw2` (R116); `Ax` is source and destination. -/
  | bflyW (ax aw1 aw2 : VarNo)
  deriving DecidableEq, Repr

/-- One line of a program as the caller holds it (R24, R49): the 3-bit operation select of R44, its only encoded
field, and the numbers of the variables written on the line, the destination first. Which file a number belongs to
is fixed by the operation. NORM and RED name no third variable; `src2` is then idle and influences nothing. -/
structure Line where
  opsel : BitVec 3
  dst : VarNo
  src1 : VarNo
  src2 : VarNo
  deriving DecidableEq, Repr

/-- The variant of an operation (R43). -/
def Instr.variant : Instr → Variant
  | .normN _ _ | .redN _ _ | .bflyN _ _ _ => .narrow
  | .normW _ _ | .redW _ _ | .bflyW _ _ _ => .wide

/-- The function of an operation (R43). -/
def Instr.fn : Instr → Fn
  | .normN _ _ | .normW _ _ => .norm
  | .redN _ _ | .redW _ _ => .red
  | .bflyN _ _ _ | .bflyW _ _ _ => .bfly

/-- The number of the destination variable (R49). -/
def Instr.dst : Instr → VarNo
  | .normN rd _ | .redN rd _ | .normW rd _ | .redW rd _ => rd
  | .bflyN ax _ _ | .bflyW ax _ _ => ax

/-- The variable a line binds (R29): its first operand. -/
def Instr.writes : Instr → VarRef
  | .normN rd _ | .redN rd _ => .r rd
  | .bflyN ax _ _ => .a ax
  | .normW rd _ | .redW rd _ => .wideR rd
  | .bflyW ax _ _ => .wideA ax

/-- The variables whose values a line presents on the operand ports (R45, R49). -/
def Instr.reads : Instr → List VarRef
  | .normN _ rs | .redN _ rs => [.r rs]
  | .bflyN ax aw1 aw2 => [.a ax, .a aw1, .a aw2]
  | .normW _ rs | .redW _ rs => [.wideR rs]
  | .bflyW ax aw1 aw2 => [.wideA ax, .wideA aw1, .wideA aw2]

/-- The mnemonic of an operation (R43). -/
def Instr.mnemonic : Instr → String
  | .normN _ _ => "NORM.N"
  | .redN _ _ => "RED.N"
  | .bflyN _ _ _ => "BFLY.N"
  | .normW _ _ => "NORM.W"
  | .redW _ _ => "RED.W"
  | .bflyW _ _ _ => "BFLY.W"

/-- The text of a variable name (R29). -/
def VarRef.text : VarRef → String
  | .a k => "a" ++ toString k.val
  | .r k => "r" ++ toString k.val
  | .wideA k => "A" ++ toString k.val
  | .wideR k => "R" ++ toString k.val

/-- The variables a line writes down, in order (R49): BFLY names X once, first, as source and destination. -/
def Instr.names (i : Instr) : List VarRef :=
  match i.fn with
  | .bfly => i.reads
  | _ => i.writes :: i.reads

/-- The assembler text of a line (R49). -/
def Instr.text (i : Instr) : String :=
  i.mnemonic ++ " " ++ String.intercalate ", " (i.names.map VarRef.text)

end Sys2Proof
end

