-- ==== Sys2Proof/WellFormed.lean ====
section
/-!
DEFINITION. The one check a line of a program can fail as text: a reserved operation select (spec 30_encoding.md R47).
Variable numbers, operand widths and lane counts are right by type (20_memory.md R33: the request type cannot express
another), so every `Instr` is well formed.
-/

namespace Sys2Proof

/-- The operation select names an operation: its field FN is not 11 (R44, R47). -/
def Line.selectLegal (l : Line) : Bool := l.opsel.extractLsb' 0 2 != 3#2

/-- A line that is a request of this block (R132): it has one check, the select. Whether its operand variables hold
values is a question about the state, and the step asks it (R51). -/
def Line.wellFormed (l : Line) : Bool := l.selectLegal

end Sys2Proof
end

