-- ==== Sys2Proof/Decode.lean ====
section
/-!
DEFINITION. The decoder of the operation select (spec 30_encoding.md R44, R47, R48), the encoder written from the
same table, and the table itself (spec/opcode_table.json).
-/

namespace Sys2Proof

/-- Why a line does not decode. -/
inductive DecodeError where
  /-- `OPSEL` is 011 or 111 (R47). -/
  | reservedSelect
  deriving DecidableEq, Repr

/-- Field V of R44: bit 2 of the select. -/
def decodeVariant (o : BitVec 3) : Variant := if o.getLsbD 2 then .wide else .narrow

/-- Field FN of R44: bits 1 and 0 of the select; 11 is reserved. -/
def decodeFn (o : BitVec 3) : Option Fn :=
  match (o.extractLsb' 0 2).toNat with
  | 0 => some .norm
  | 1 => some .red
  | 2 => some .bfly
  | _ => none

/-- The operation a variant, a function and the variables of a line make (R43, R49). -/
def assemble (v : Variant) (f : Fn) (l : Line) : Instr :=
  match v, f with
  | .narrow, .norm => .normN l.dst l.src1
  | .narrow, .red => .redN l.dst l.src1
  | .narrow, .bfly => .bflyN l.dst l.src1 l.src2
  | .wide, .norm => .normW l.dst l.src1
  | .wide, .red => .redW l.dst l.src1
  | .wide, .bfly => .bflyW l.dst l.src1 l.src2

/-- The decoder (R48), total on the eight select values: six operations and "reserved". -/
def decode (l : Line) : Except DecodeError Instr :=
  match decodeFn l.opsel with
  | some f => .ok (assemble (decodeVariant l.opsel) f l)
  | none => .error .reservedSelect

/-- The bit of field V (R44). -/
def encodeVariant : Variant → BitVec 1
  | .narrow => 0#1
  | .wide => 1#1

/-- The bits of field FN (R44). -/
def encodeFn : Fn → BitVec 2
  | .norm => 0#2
  | .red => 1#2
  | .bfly => 2#2

/-- `OPSEL` of a variant and a function (R44): V above FN. -/
def encodeSelect (v : Variant) (f : Fn) : BitVec 3 := encodeVariant v ++ encodeFn f

/-- `OPSEL` of an operation (R44). -/
def Instr.opsel (i : Instr) : BitVec 3 := encodeSelect i.variant i.fn

/-- The line an operation is written as (R49): its select and its variables; the idle number is 0. -/
def encode (i : Instr) : Line :=
  match i with
  | .normN rd rs | .redN rd rs | .normW rd rs | .redW rd rs => ⟨i.opsel, rd, rs, 0⟩
  | .bflyN ax aw1 aw2 | .bflyW ax aw1 aw2 => ⟨i.opsel, ax, aw1, aw2⟩

/-- One row of spec/opcode_table.json: the select equals `pattern` on the bits of `mask`. -/
structure OpcodeRow where
  mnemonic : String
  pattern : BitVec 3
  mask : BitVec 3
  deriving DecidableEq, Repr

/-- spec/opcode_table.json, row by row. -/
def opcodeTable : List OpcodeRow :=
  [⟨"NORM.N", 0#3, 7#3⟩, ⟨"RED.N", 1#3, 7#3⟩, ⟨"BFLY.N", 2#3, 7#3⟩,
   ⟨"NORM.W", 4#3, 7#3⟩, ⟨"RED.W", 5#3, 7#3⟩, ⟨"BFLY.W", 6#3, 7#3⟩]

/-- A row of the table matches a select. -/
def OpcodeRow.covers (row : OpcodeRow) (o : BitVec 3) : Bool := (o &&& row.mask) == row.pattern

/-- The line that presents the operation select numbered `w` (`nbits` of its bits count, and of those the three of
`OPSEL[2:0]`) over the first three variables of each file: 0 is the destination, 1 and 2 the further sources. -/
def tableLine (nbits w : Nat) : Line := ⟨BitVec.ofNat 3 (w % 2 ^ nbits), 0, 1, 2⟩

/-- The operation the decoder reads from the table word `w`. -/
def decodeTableWord (nbits w : Nat) : Option Instr := (decode (tableLine nbits w)).toOption

end Sys2Proof
end

