-- ==== Sys2Proof/Machine/State.lean ====
section
/-!
DEFINITION. The state of the machine and the reasons a step can stop. The function unit holds nothing (spec
10_state.md R15); the state is the configuration its rules are written over (00_scope.md R12), the caller's variables
(R29) and the caller's place in its list of transactions (R24).
-/

namespace Sys2Proof.Machine

open Sys2Proof

/-- Nothing in this machine faults: "The block raises no exception, trap, fault, error code or status of any kind, on
any input" (R120), and "Fault: never" (R132). The type is therefore empty; nobody raises a fault. -/
inductive Fault where
  deriving DecidableEq, Repr

/-- Why the model gives a request no step (R132: properties of the request, not events of the block). -/
inductive Refusal where
  /-- Raised by an arm of `exec` that has no meaning yet (none is left). Safe: the run stops. -/
  | notModelled (mnemonic : String)
  /-- Raised by `step` on a line whose `OPSEL` is 011 or 111 (R47, U7). Safe: the run stops where the hardware's
  behaviour is unspecified. -/
  | reservedSelect
  /-- Raised by a meaning whose operand variable holds no value (R29, R51, U10). Safe: the run stops where the request
  has no meaning. -/
  | operandUnset
  /-- Raised by `step` when the caller's list has no further line: the run has ended (R146). Safe: the run stops. -/
  | runEnded
  deriving DecidableEq, Repr

/-- The whole state. `cfg` is fixed for the machine: no step writes it (R16). A variable that nothing has written holds
no value (R28, R29), which is what `none` says. -/
structure State where
  /-- The parameters of R12. Q is a constant and no field. -/
  cfg : Config
  /-- `a0..a7` (R29). -/
  a : Vector (Option (V16 16)) 8
  /-- `r0..r7` (R29). -/
  r : Vector (Option (V32 8)) 8
  /-- `A0..A7` (R29). -/
  wa : Vector (Option (V16 32)) 8
  /-- `R0..R7` (R29). -/
  wr : Vector (Option (V32 16)) 8
  /-- The caller's list of transactions (R24, R146). -/
  program : List Line
  /-- The position in that list, "the only pc, held by the caller" (R24). -/
  pos : Nat
  deriving DecidableEq, Repr

/-- After reset (R28): the parameters at the hardware's values, no variable holding a value, and no transaction
requested. -/
def State.reset : State where
  cfg := Config.hardware
  a := Vector.replicate 8 none
  r := Vector.replicate 8 none
  wa := Vector.replicate 8 none
  wr := Vector.replicate 8 none
  program := []
  pos := 0

end Sys2Proof.Machine
end

