-- ==== Sys2Proof/Machine/Ops.lean ====
section
/-!
DEFINITION. The named operations over the caller's side of the machine: binding a variable (spec 10_state.md R21, R29),
the place in the list of transactions (R24, 70_reset_and_hazards.md R146), and placing a request. The block has no
memory (20_memory.md R30), takes no exception and has no return from one (60_exceptions.md R120, R125, R126), so there
is no operation for any of these.
-/

namespace Sys2Proof.Machine

open Sys2Proof

/-- Bind a variable of `a0..a7`. -/
def State.bindA (s : State) (k : VarNo) (v : V16 16) : State := { s with a := s.a.set k.val (some v) k.isLt }

/-- Bind a variable of `r0..r7`. -/
def State.bindR (s : State) (k : VarNo) (v : V32 8) : State := { s with r := s.r.set k.val (some v) k.isLt }

/-- Bind a variable of `A0..A7`. -/
def State.bindWideA (s : State) (k : VarNo) (v : V16 32) : State := { s with wa := s.wa.set k.val (some v) k.isLt }

/-- Bind a variable of `R0..R7`. -/
def State.bindWideR (s : State) (k : VarNo) (v : V32 16) : State := { s with wr := s.wr.set k.val (some v) k.isLt }

/-- The value a variable of `a0..a7` holds, if any. -/
def State.getA (s : State) (k : VarNo) : Option (V16 16) := s.a[k.val]

/-- The value a variable of `r0..r7` holds, if any. -/
def State.getR (s : State) (k : VarNo) : Option (V32 8) := s.r[k.val]

/-- The value a variable of `A0..A7` holds, if any. -/
def State.getWideA (s : State) (k : VarNo) : Option (V16 32) := s.wa[k.val]

/-- The value a variable of `R0..R7` holds, if any. -/
def State.getWideR (s : State) (k : VarNo) : Option (V32 16) := s.wr[k.val]

/-- The line the caller requests next; none once the list is used up (R146). -/
def State.nextLine (s : State) : Option Line := s.program[s.pos]?

/-- The response has been delivered: the caller goes on to the next line of its list (R24). -/
def State.advance (s : State) : State := { s with pos := s.pos + 1 }

/-- What follows a transaction: the caller goes on after a response, and a request without a step has none. -/
def afterExec : Host.Outcome State Fault Refusal → Host.Outcome State Fault Refusal
  | .next s => .next s.advance
  | .fault f => .fault f
  | .refused r => .refused r

/-- The caller starts a list of transactions from its first line (R24). -/
def State.loadProgram (s : State) (p : List Line) : State := { s with program := p, pos := 0 }

/-- Present an operand word of zeros for a variable that holds no value; a value already held stays. -/
def State.presentZero (s : State) : VarRef → State
  | .a k => if (s.getA k).isSome then s else s.bindA k (Vector.replicate 16 0#16)
  | .r k => if (s.getR k).isSome then s else s.bindR k (Vector.replicate 8 0#32)
  | .wideA k => if (s.getWideA k).isSome then s else s.bindWideA k (Vector.replicate 32 0#16)
  | .wideR k => if (s.getWideR k).isSome then s else s.bindWideR k (Vector.replicate 16 0#32)

/-- Present operand words of zeros for every operand of a line that holds no value. -/
def State.presentOperands (s : State) (l : Line) : State :=
  match decode l with
  | .ok i => i.reads.foldl State.presentZero s
  | .error _ => s

/-- Place one request so that it is the one the caller makes next: its line is the whole list, and its operand
variables hold values (zeros where they held none). -/
def State.placeRequest (s : State) (l : Line) : State := (s.presentOperands l).loadProgram [l]

end Sys2Proof.Machine
end

