-- ==== Sys2Proof/Machine/Operands.lean ====
section
/-!
DEFINITION. The operand forms: a whole vector by value from each variable a line names (spec 20_memory.md R31,
30_encoding.md R45, R51). There are no immediates, addressing modes or register numbers (R46).
-/

namespace Sys2Proof.Machine

open Sys2Proof

/-- Take the value of one operand variable and go on with it; a variable that holds no value gives the request no
step (R29, R51). -/
def withOperand {α : Type} (x : Option α) (k : α → Host.Outcome State Fault Refusal) :
    Host.Outcome State Fault Refusal :=
  match x with
  | some v => k v
  | none => .refused .operandUnset

/-- NORM and RED: one operand, one result bound to the destination (R43, R49). -/
def unary {α : Type} (x : Option α) (f : α → α) (bind : α → State) : Host.Outcome State Fault Refusal :=
  withOperand x fun v => .next (bind (f v))

/-- BFLY: three operands, all read before the result is bound to the first (R21, R49). -/
def ternary {α : Type} (x w1 w2 : Option α) (f : α → α → α → α) (bind : α → State) :
    Host.Outcome State Fault Refusal :=
  withOperand x fun vx => withOperand w1 fun v1 => withOperand w2 fun v2 => .next (bind (f vx v1 v2))

/-- The variable holds a value (R29). -/
def State.holds (s : State) : VarRef → Bool
  | .a k => (s.getA k).isSome
  | .r k => (s.getR k).isSome
  | .wideA k => (s.getWideA k).isSome
  | .wideR k => (s.getWideR k).isSome

/-- Two states hold the same in a variable: the same value, or no value. -/
def State.SameAt (s t : State) : VarRef → Prop
  | .a k => s.getA k = t.getA k
  | .r k => s.getR k = t.getR k
  | .wideA k => s.getWideA k = t.getWideA k
  | .wideR k => s.getWideR k = t.getWideR k

end Sys2Proof.Machine
end

