-- ==== Sys2Proof/Machine/Normalizer.lean ====
section
/-!
DEFINITION. The Normalizer (spec 41_normalizer.md): the four-step datapath of R71 to R74, the parameters of
93_implementation_defined.md U1 and U2, and the operations NORM.N (R80) and NORM.W (R81).
-/

namespace Sys2Proof.Machine

open Sys2Proof

/-- `splat32(Q)` on one lane (R59). -/
def qLane : Lane32 := BitVec.ofNat 32 Config.Q

/-- Step 1, the difference (R71). -/
def normT1 (r : Lane32) : Lane32 := subLane r qLane

/-- Step 2 (R72): subtract q where the mask of step 1 is all-zero. -/
def normR1 (r : Lane32) : Lane32 := subLane r (whereClear (signMask (normT1 r)) qLane)

/-- Steps 3 and 4 (R73, R74): add q where the second mask is all-ones. -/
def normFix (r1 : Lane32) : Lane32 := addLane r1 (whereSet (signMask r1) qLane)

/-- `norm` (R75): the four steps on one lane. -/
def normDatapath (r : Lane32) : Lane32 := normFix (normR1 r)

/-- The function `norm` of a configuration: the four steps on every lane, or, where only the contract of R70 is assumed
(U2), the four steps on NormDom and a free value outside. Both variants apply this one function (R81). -/
def normFn (c : Config) (r : Lane32) : Lane32 :=
  if c.normModel = .contract ∧ ¬ NormDom r then Config.normOutside r else normDatapath r

/-- The Normalizer of a variant on one lane: `norm`, or in the conservative reading of U1 a free value for a lane outside
NormDom. -/
def normLane (c : Config) (v : Variant) (r : Lane32) : Lane32 :=
  if c.domainReading = .conservative ∧ ¬ NormDom r then Config.normAny v r else normFn c r

/-- The Normalizer on a vector: `for i: Y[i] <- norm(R[i])` (R80, R81). -/
def normVec {L : Nat} (c : Config) (v : Variant) (r : V32 L) : V32 L := mapLanes (normLane c v) r

/-- The four steps as the source gives them, on a whole vector (R71 to R74). -/
def normSteps {L : Nat} (r : V32 L) : V32 L :=
  let q := splat L qLane
  let t1 := sub32 r q
  let m1 := sra32 t1 31
  let r1 := sub32 r (andnot32 m1 q)
  let m2 := sra32 r1 31
  add32 r1 (and32 q m2)

/-- `NORM.N rd, rs` (R80). -/
def execNormN (rd rs : VarNo) (s : State) : Host.Outcome State Fault Refusal :=
  unary (s.getR rs) (normVec s.cfg .narrow) (s.bindR rd)

/-- `NORM.W Rd, Rs` (R81). -/
def execNormW (rd rs : VarNo) (s : State) : Host.Outcome State Fault Refusal :=
  unary (s.getWideR rs) (normVec s.cfg .wide) (s.bindWideR rd)

end Sys2Proof.Machine
end

