-- ==== Sys2Proof/Machine/Reducer.lean ====
section
/-!
DEFINITION. The Reducer (spec 42_reducer.md): the step list of R84 to R87, the CONTRACT model of R94, the conservative
reading of 93_implementation_defined.md U1, the even and odd realization of R88, and the operations RED.N (R96) and
RED.W (R97).
-/

namespace Sys2Proof.Machine

open Sys2Proof

/-- Step t (R85): the low 32 bits of the product with M. -/
def redT (c : Config) (v : Lane32) : Lane32 := mulloLane v c.m

/-- Step u (R86): the high 32 bits of the 64-bit product of t and q. -/
def redU (c : Config) (t : Lane32) : Lane32 := mulhiLane c.widenSigned t qLane

/-- The multiple of q that is subtracted (R87). -/
def redP (u : Lane32) : Lane32 := mulloLane u qLane

/-- `red` (R84): the normative step list on one lane, for any M and either reading of the widening multiply. -/
def redDatapath (c : Config) (v : Lane32) : Lane32 := subLane v (redP (redU c (redT c v)))

/-- A Reducer that meets the contract of R83 (R94): the canonical residue of the lane, moved by -q, 0 or +q as the free
choice says. Every value in [-q, 2q) congruent to the lane is one of these three. -/
def redContract (x : Lane32) : Lane32 :=
  wrap32 (x.toInt % 3329 + 3329 * (((Config.reducerChoice x).val : Int) - 1))

/-- The function `Reducer : BV(32) -> BV(32)` of a configuration: the step list (R84), or the function of which only the
contract is assumed, and nothing outside RedDom (R94). Both variants apply this one function (R89). -/
def redFn (c : Config) (x : Lane32) : Lane32 :=
  match c.reducerModel with
  | .datapath => redDatapath c x
  | .contract => if RedDom c.redBound x then redContract x else Config.reducerOutside x

/-- The Reducer of a variant on one lane: the function of the configuration, or in the conservative reading of U1 a free
value for a lane outside RedDom. -/
def redLane (c : Config) (v : Variant) (x : Lane32) : Lane32 :=
  if c.domainReading = .conservative ∧ ¬ RedDom c.redBound x then Config.redAny v x else redFn c x

/-- The Reducer on a vector: `for i: Y[i] <- red(R[i])` (R96, R97). -/
def redVec {L : Nat} (c : Config) (v : Variant) (r : V32 L) : V32 L := mapLanes (redLane c v) r

/-- The step list on a whole vector with the source's even and odd widening multiplies (R85, R87, R88). -/
def redSteps {L n : Nat} (h : L = 2 * n) (c : Config) (r : V32 L) : V32 L :=
  let t := mullo32 r (splat L c.m)
  let pe := mulwideEven h c.widenSigned t qLane
  let po := mulwideOdd h c.widenSigned t qLane
  let u := recombineHi h pe po
  sub32 r (mullo32 u (splat L qLane))

/-- `RED.N rd, rs` (R96). -/
def execRedN (rd rs : VarNo) (s : State) : Host.Outcome State Fault Refusal :=
  unary (s.getR rs) (redVec s.cfg .narrow) (s.bindR rd)

/-- `RED.W Rd, Rs` (R97). -/
def execRedW (rd rs : VarNo) (s : State) : Host.Outcome State Fault Refusal :=
  unary (s.getWideR rs) (redVec s.cfg .wide) (s.bindWideR rd)

end Sys2Proof.Machine
end

