-- ==== Sys2Proof/Machine/Butterfly.lean ====
section
/-!
DEFINITION. The Butterfly kernel (spec 43_butterfly.md): the two branches of R101, the five steps of R102 to R106, and
the operations BFLY.N (R115) and BFLY.W (R116). There is no add and subtract network, no twiddle lookup and no lane
permutation (R100).
-/

namespace Sys2Proof.Machine

open Sys2Proof

/-- Steps 1 to 4 of one branch (R102 to R105): multiply-accumulate, reduce, normalize. -/
def branchNorm {m n : Nat} (h : m = 2 * n) (c : Config) (v : Variant) (x w : V16 m) : V32 n :=
  normVec c v (redVec c v (madd16 h c x w))

/-- The result lane of a branch for the lanes it was computed from. In the conservative reading of U1 a lane pair
outside BflyDom gives the free value instead. -/
def branchLane (c : Config) (v : Variant) (b : Branch) (x0 x1 w0 w1 y : Lane16) : Lane16 :=
  if c.domainReading = .conservative ∧ ¬ PairDom x0 x1 w0 w1 then Config.bflyAny v b x0 x1 w0 w1 else y

/-- The narrowed lanes of one branch (R106). -/
def branchOut {m n : Nat} (h : m = 2 * n) (c : Config) (v : Variant) (b : Branch) (x w : V16 m) : V16 n :=
  let y := mapLanes (narrowLane (c.packMode v)) (branchNorm h c v x w)
  Vector.ofFn fun i =>
    branchLane c v b (x[2 * i.val]'(by omega)) (x[2 * i.val + 1]'(by omega)) (w[2 * i.val]'(by omega))
      (w[2 * i.val + 1]'(by omega)) y[i]

/-- The Butterfly kernel (R100 to R107): branch 1 with W1, branch 2 with W2, repacked in the order of the
configuration. -/
def bfly {m n : Nat} (h : m = 2 * n) (h4 : n % 4 = 0) (c : Config) (v : Variant) (x w1 w2 : V16 m) : V16 m :=
  arrange h h4 (c.packOrder v) (branchOut h c v .one x w1) (branchOut h c v .two x w2)

/-- BFLY in variant N: 16 lanes of 16 bits, 8 lanes of 32 bits between (R9). -/
def bflyN (c : Config) (x w1 w2 : V16 16) : V16 16 := bfly (n := 8) (by decide) (by decide) c .narrow x w1 w2

/-- BFLY in variant W: 32 lanes of 16 bits, 16 lanes of 32 bits between (R9). -/
def bflyW (c : Config) (x w1 w2 : V16 32) : V16 32 := bfly (n := 16) (by decide) (by decide) c .wide x w1 w2

/-- `BFLY.N ax, aw1, aw2` (R115). -/
def execBflyN (ax aw1 aw2 : VarNo) (s : State) : Host.Outcome State Fault Refusal :=
  ternary (s.getA ax) (s.getA aw1) (s.getA aw2) (bflyN s.cfg) (s.bindA ax)

/-- `BFLY.W Ax, Aw1, Aw2` (R116). -/
def execBflyW (ax aw1 aw2 : VarNo) (s : State) : Host.Outcome State Fault Refusal :=
  ternary (s.getWideA ax) (s.getWideA aw1) (s.getWideA aw2) (bflyW s.cfg) (s.bindWideA ax)

end Sys2Proof.Machine
end

