-- ==== Sys2Proof/Machine/Dispatch.lean ====
section
/-!
DEFINITION. exec: one arm per operation of spec 30_encoding.md R43, in the order of the opcode table.
-/

namespace Sys2Proof.Machine

open Sys2Proof

def exec (i : Instr) (s : State) : Host.Outcome State Fault Refusal :=
  match i with
  | .normN rd rs => Sys2Proof.Machine.execNormN rd rs s
  | .redN rd rs => Sys2Proof.Machine.execRedN rd rs s
  | .bflyN ax aw1 aw2 => Sys2Proof.Machine.execBflyN ax aw1 aw2 s
  | .normW rd rs => Sys2Proof.Machine.execNormW rd rs s
  | .redW rd rs => Sys2Proof.Machine.execRedW rd rs s
  | .bflyW ax aw1 aw2 => Sys2Proof.Machine.execBflyW ax aw1 aw2 s

end Sys2Proof.Machine
end

