-- ==== Sys2Proof/Machine/Step.lean ====
section
/-!
DEFINITION. One step: the caller's next transaction (spec 30_encoding.md R51, 10_state.md R24), and how a request is
placed so that it is the next one.
-/

namespace Sys2Proof.Machine

open Sys2Proof

/-- Decode, then perform (R51): a list with no further line has ended (R146), a reserved select is refused (R47), and
an operation is performed, after which the caller goes on to its next line. -/
def step (s : State) : Host.Outcome State Fault Refusal :=
  match s.nextLine with
  | none => .refused .runEnded
  | some l =>
    match decode l with
    | .error .reservedSelect => .refused .reservedSelect
    | .ok i => afterExec (exec i s)

/-- The state with the request numbered `w` placed as the caller's next (and only) transaction. -/
def State.withFetchWord (s : State) (nbits w : Nat) : State := s.placeRequest (tableLine nbits w)

end Sys2Proof.Machine
end

