-- ==== Sys2Proof/Machine/Layout.lean ====
section
/-!
DEFINITION. The flat bit layout of a vector (spec 10_state.md R20) and the caller's byte image of it (20_memory.md R32).
No result depends on either; they say what a vector is at a port and in the caller's storage.
-/

namespace Sys2Proof.Machine

open Sys2Proof

/-- The number whose base-2^w digits are the lanes, lane 0 the least significant. -/
def digits {w : Nat} : List (BitVec w) → Nat
  | [] => 0
  | x :: xs => x.toNat + 2 ^ w * digits xs

/-- The flat bit vector of a lane vector (R20): lane `i` at bits `[w*i + w - 1 : w*i]`. -/
def flat {w L : Nat} (v : Vector (BitVec w) L) : BitVec (w * L) := BitVec.ofNat (w * L) (digits v.toList)

/-- Lane `i` of a flat bit vector read with lanes of `w` bits (R20). -/
def laneAt {n : Nat} (w : Nat) (b : BitVec n) (i : Nat) : BitVec w := b.extractLsb' (w * i) w

/-- The lane vector a flat bit vector holds (R20). -/
def lanesOf (w L : Nat) {n : Nat} (b : BitVec n) : Vector (BitVec w) L := Vector.ofFn fun i => laneAt w b i.val

/-- Byte `k` of the caller's stored image: flat bits `[8k+7 : 8k]` (R32). -/
def byteAt {n : Nat} (b : BitVec n) (k : Nat) : Byte := b.extractLsb' (8 * k) 8

/-- The caller's stored image of a flat vector, byte 0 first (R32). -/
def byteImage {n : Nat} (b : BitVec n) : List Byte := (List.range (n / 8)).map (byteAt b)

end Sys2Proof.Machine
end

