-- ==== Sys2Proof/Machine/Ports.lean ====
section
/-!
DEFINITION. The unit as the spec frames it (00_scope.md R4, 10_state.md R14): a request (an operation and its operand
vectors by value), its response, and the pure function between them; and both as they stand on the ports
(30_encoding.md R44, R45). Nothing of this is state: it exists for one transaction (R15).
-/

namespace Sys2Proof.Machine

open Sys2Proof

/-- A request, typed by its variant (R33, R43, R45). -/
inductive Request where
  | normN (R : V32 8)
  | redN (R : V32 8)
  | bflyN (X W1 W2 : V16 16)
  | normW (R : V32 16)
  | redW (R : V32 16)
  | bflyW (X W1 W2 : V16 32)
  deriving DecidableEq, Repr

/-- A response: the one result vector (R34, R45). -/
inductive Response where
  | words8 (Y : V32 8)
  | halves16 (Y : V16 16)
  | words16 (Y : V32 16)
  | halves32 (Y : V16 32)
  deriving DecidableEq, Repr

/-- `step : Config -> Request -> Response` of R14: no state argument and no state result. -/
def serve (c : Config) : Request → Response
  | .normN R => .words8 (normVec c .narrow R)
  | .redN R => .words8 (redVec c .narrow R)
  | .bflyN X W1 W2 => .halves16 (Machine.bflyN c X W1 W2)
  | .normW R => .words16 (normVec c .wide R)
  | .redW R => .words16 (redVec c .wide R)
  | .bflyW X W1 W2 => .halves32 (Machine.bflyW c X W1 W2)

/-- The request a line makes of the values its variables hold; none if one holds no value (R29, R51). -/
def requestOf (i : Instr) (s : State) : Option Request :=
  match i with
  | .normN _ rs => (s.getR rs).map .normN
  | .redN _ rs => (s.getR rs).map .redN
  | .bflyN ax aw1 aw2 =>
    (s.getA ax).bind fun x => (s.getA aw1).bind fun w1 => (s.getA aw2).map fun w2 => .bflyN x w1 w2
  | .normW _ rs => (s.getWideR rs).map .normW
  | .redW _ rs => (s.getWideR rs).map .redW
  | .bflyW ax aw1 aw2 =>
    (s.getWideA ax).bind fun x => (s.getWideA aw1).bind fun w1 => (s.getWideA aw2).map fun w2 => .bflyW x w1 w2

/-- The caller binds the destination variable of its line to the response (R21, R29). -/
def State.deliver (s : State) (dst : VarNo) : Response → State
  | .words8 Y => s.bindR dst Y
  | .halves16 Y => s.bindA dst Y
  | .words16 Y => s.bindWideR dst Y
  | .halves32 Y => s.bindWideA dst Y

/-- What stands on the request ports (R45): the select and the operand ports A, B, C, of 256 bits in variant N and 512
in variant W. -/
inductive Ports where
  | narrow (opsel : BitVec 3) (A B C : BitVec 256)
  | wide (opsel : BitVec 3) (A B C : BitVec 512)
  deriving DecidableEq, Repr

/-- A request on the ports (R45). A port the operation does not use carries zeros, which nothing reads. -/
def Request.toPorts : Request → Ports
  | .normN R => .narrow (encodeSelect .narrow .norm) (flat R) 0 0
  | .redN R => .narrow (encodeSelect .narrow .red) (flat R) 0 0
  | .bflyN X W1 W2 => .narrow (encodeSelect .narrow .bfly) (flat X) (flat W1) (flat W2)
  | .normW R => .wide (encodeSelect .wide .norm) (flat R) 0 0
  | .redW R => .wide (encodeSelect .wide .red) (flat R) 0 0
  | .bflyW X W1 W2 => .wide (encodeSelect .wide .bfly) (flat X) (flat W1) (flat W2)

/-- The request that ports carry; none for a reserved select (R47) and for ports of the other variant's width
(R33). -/
def Ports.toRequest : Ports → Option Request
  | .narrow o A B C =>
    match decodeVariant o, decodeFn o with
    | .narrow, some .norm => some (.normN (lanesOf 32 8 A))
    | .narrow, some .red => some (.redN (lanesOf 32 8 A))
    | .narrow, some .bfly => some (.bflyN (lanesOf 16 16 A) (lanesOf 16 16 B) (lanesOf 16 16 C))
    | _, _ => none
  | .wide o A B C =>
    match decodeVariant o, decodeFn o with
    | .wide, some .norm => some (.normW (lanesOf 32 16 A))
    | .wide, some .red => some (.redW (lanesOf 32 16 A))
    | .wide, some .bfly => some (.bflyW (lanesOf 16 32 A) (lanesOf 16 32 B) (lanesOf 16 32 C))
    | _, _ => none

/-- What stands on the response port Y (R45): 256 bits in variant N and 512 in variant W. -/
inductive PortY where
  | narrow (Y : BitVec 256)
  | wide (Y : BitVec 512)
  deriving DecidableEq, Repr

/-- The response on port Y, in the flat layout of R20 (R45). -/
def Response.portY : Response → PortY
  | .words8 Y => .narrow (flat Y)
  | .halves16 Y => .narrow (flat Y)
  | .words16 Y => .wide (flat Y)
  | .halves32 Y => .wide (flat Y)

end Sys2Proof.Machine
end

