-- ==== Sys2Proof/Machine/Reference.lean ====
section
/-!
DEFINITION. What the datapath is compared with: the closed forms of the scalar functions over the integers (spec
41_normalizer.md R75, 42_reducer.md R84, 43_butterfly.md R107), the Reducer's contract (R83) and the scalar reference
of the Butterfly kernel (R111). No step calls any of this.
-/

namespace Sys2Proof.Machine

open Sys2Proof

/-- `wrap_n(z)` (00_scope.md section 4): the integer in [-2^(n-1), 2^(n-1)) congruent to z modulo 2^n. -/
def wrapInt (n : Nat) (z : Int) : Int := z.bmod (2 ^ n)

/-- The closed form of `norm` on every 32-bit value, case by case (R75). -/
def normInt (r : Int) : Int :=
  if r ≤ -2147480320 then r - 3329 + 4294967296
  else if r ≤ -1 then r + 3329
  else if r ≤ 3328 then r
  else r - 3329

/-- t of R84: the low 32 bits of v * M, a number in [0, 2^32). -/
def redTInt (M v : Int) : Int := (v * M) % 4294967296

/-- u of R84: floor(t * q / 2^32). -/
def redUInt (M v : Int) : Int := redTInt M v * 3329 / 4294967296

/-- The pseudocode of `red` over the integers (R84), t read as unsigned. -/
def redInt (M v : Int) : Int := wrapInt 32 (v - redUInt M v * 3329)

/-- u of R95: the same with t read as signed. -/
def redUSignedInt (M v : Int) : Int := wrapInt 32 (v * M) * 3329 / 4294967296

/-- `red` with `WIDEN_SIGNED` over the integers (R95). -/
def redSignedInt (M v : Int) : Int := wrapInt 32 (v - redUSignedInt M v * 3329)

/-- The narrowings over the integers (R65, R66), read as signed 16-bit values. -/
def narrowInt : PackMode → Int → Int
  | .trunc, z => wrapInt 16 z
  | .ssat, z => max (-32768) (min 32767 z)
  | .usat, z => wrapInt 16 (max 0 (min 65535 z))

/-- The multiply-accumulate lane over the integers (R64). -/
def maddInt (x0 x1 w0 w1 : Int) : Int := wrapInt 32 (x0 * w0 + x1 * w1)

/-- The lane function of the Butterfly kernel (R107): narrow(norm(red(wrap_32(x0*w0 + x1*w1)))). -/
def bflyInt (mode : PackMode) (M x0 x1 w0 w1 : Int) : Int := narrowInt mode (normInt (redInt M (maddInt x0 x1 w0 w1)))

/-- `RedContract(f)` (R83): congruence and range, for every v in RedDom. -/
def RedContract (bound : Nat) (f : Lane32 → Lane32) : Prop :=
  ∀ v : Lane32, RedDom bound v → ((f v).toInt - v.toInt) % 3329 = 0 ∧ NormDom (f v)

/-- One lane of the scalar reference (R111). -/
def refLane (x0 x1 w0 w1 : Lane16) : Lane16 := wrap16 ((x0.toInt * w0.toInt + x1.toInt * w1.toInt) % 3329)

/-- One branch of the scalar reference. -/
def refBranch {m n : Nat} (h : m = 2 * n) (x w : V16 m) : V16 n :=
  Vector.ofFn fun i =>
    refLane (x[2 * i.val]'(by omega)) (x[2 * i.val + 1]'(by omega)) (w[2 * i.val]'(by omega))
      (w[2 * i.val + 1]'(by omega))

/-- `BflyRef` (R111): the two dot products of every lane pair modulo q, interleaved. -/
def bflyRef {m n : Nat} (h : m = 2 * n) (x w1 w2 : V16 m) : V16 m := interleave h (refBranch h x w1) (refBranch h x w2)

/-- A 32-lane vector made of two 16-lane halves: `xa ++ xb` (R113). -/
def joinHalves (a b : V16 16) : V16 32 := concatLanes (by decide) a b

/-- A 16-lane vector of words made of two 8-lane halves: `a ++ b` (R81, R89). -/
def joinWords (a b : V32 8) : V32 16 := concatLanes (by decide) a b

/-- `BflyRef` in variant N. -/
def bflyRefN (x w1 w2 : V16 16) : V16 16 := bflyRef (n := 8) (by decide) x w1 w2

/-- `BflyRef` in variant W. -/
def bflyRefW (x w1 w2 : V16 32) : V16 32 := bflyRef (n := 16) (by decide) x w1 w2

end Sys2Proof.Machine
end

