-- ==== Sys2Proof/Safety.lean ====
section
/-!
DEFINITION. What counts as a safe request, state and run: the caller's duties of spec 70_reset_and_hazards.md R138, as
predicates claims use. The step never checks them (60_exceptions.md R121).
-/

namespace Sys2Proof.Machine

open Sys2Proof

/-- The lane bounds the caller owes for a request (R138): NormDom for NORM, RedDom for RED, BflyDom for BFLY. -/
def Request.InDomain (c : Config) : Request → Prop
  | .normN R => ∀ i : Fin 8, NormDom R[i]
  | .redN R => ∀ i : Fin 8, RedDom c.redBound R[i]
  | .bflyN X W1 W2 => BflyDom X W1 W2
  | .normW R => ∀ i : Fin 16, NormDom R[i]
  | .redW R => ∀ i : Fin 16, RedDom c.redBound R[i]
  | .bflyW X W1 W2 => BflyDom X W1 W2

/-- Every coefficient and twiddle variable that holds a value holds canonical lanes (R11, R110). -/
def State.AllCanonical (s : State) : Prop :=
  (∀ k x, s.getA k = some x → CanonVec x) ∧ (∀ k x, s.getWideA k = some x → CanonVec x)

/-- The configurations in which the source's claims hold (R94, R111): the Reducer is taken by its contract, on a domain
that holds every two-term sum of canonical products. -/
def MeetsContract (c : Config) : Prop := c.reducerModel = .contract ∧ 22151168 ≤ c.redBound

/-- The configurations that follow the documented datapath on every input (R12 defaults of the model choices; M, the
pack orders, the pack modes and the widening stay free). -/
def FollowsDatapath (c : Config) : Prop :=
  c.domainReading = .determinate ∧ c.reducerModel = .datapath ∧ c.normModel = .datapath ∧ c.maddOverflow = .wrap

/-- The invariant of a run: the caller's position lies in its list or just past it (R24), and where the Reducer meets
its contract every coefficient variable is canonical. -/
def State.Inv (s : State) : Prop :=
  s.pos ≤ s.program.length ∧ (MeetsContract s.cfg → s.AllCanonical)

/-- The next transaction has a step: there is one, its select is legal and its operand variables hold values (R132). -/
def State.RequestReady (s : State) : Prop :=
  ∃ l i, s.nextLine = some l ∧ decode l = .ok i ∧ ∀ x ∈ i.reads, s.holds x = true

/-- Two transactions are independent (R37, R140): neither binds a variable the other reads or binds. -/
def Independent (i j : Instr) : Prop := i.writes ∉ j.reads ∧ j.writes ∉ i.reads ∧ i.writes ≠ j.writes

end Sys2Proof.Machine
end

