-- ==== Sys2Proof/Certificates/Slice0/Obligations.lean ====
section
/-!
DEFINITION. The statements for the provers. Each docstring names the rules of spec/ it follows. A decision of the spec
(D<n>) is a rule of the spec; a clause the spec marks as derived is stated with basis 'derived'.
-/

open Sys2Proof Sys2Proof.Machine

/-! ### Encoding -/

/-- R44, R47 (decisions D3, D4): six words of the opcode table decode to their operations, two decode to nothing. -/
def Obligations.OpcodeTableWordsDecode : Prop :=
  decodeTableWord 8 0b000 = some (.normN 0 1) ∧ decodeTableWord 8 0b001 = some (.redN 0 1) ∧
  decodeTableWord 8 0b010 = some (.bflyN 0 1 2) ∧ decodeTableWord 8 0b011 = none ∧
  decodeTableWord 8 0b100 = some (.normW 0 1) ∧ decodeTableWord 8 0b101 = some (.redW 0 1) ∧
  decodeTableWord 8 0b110 = some (.bflyW 0 1 2) ∧ decodeTableWord 8 0b111 = none

/-- R44, R48, R49: for every operation with every variable number, decoding its line gives it back; and a line that
decodes to an operation has that operation's select and variable numbers. -/
def Obligations.DecodeEncodeAgree : Prop :=
  (∀ i : Instr, decode (encode i) = .ok i) ∧
  (∀ (l : Line) (i : Instr), decode l = .ok i →
    (encode i).opsel = l.opsel ∧ (encode i).dst = l.dst ∧ (encode i).src1 = l.src1 ∧
    (i.fn = .bfly → (encode i).src2 = l.src2))

/-- R44, R47, R48: the decoder refuses exactly the selects whose field FN is 11, and elsewhere field V is the variant
and field FN the function. -/
def Obligations.DecoderFollowsSelectFields : Prop :=
  ∀ l : Line, (l.opsel.extractLsb' 0 2 = 3#2 → decode l = .error .reservedSelect) ∧
    (l.opsel.extractLsb' 0 2 ≠ 3#2 → ∃ i, decode l = .ok i ∧
      (i.variant = .wide ↔ l.opsel.getLsbD 2 = true) ∧
      (i.fn = .norm ↔ l.opsel.extractLsb' 0 2 = 0#2) ∧ (i.fn = .red ↔ l.opsel.extractLsb' 0 2 = 1#2) ∧
      (i.fn = .bfly ↔ l.opsel.extractLsb' 0 2 = 2#2))

/-- R20, R44, R45 (decisions D1, D3, D5): a request put on the ports is read back whole, for every operation and every
value of every operand lane: no bit of the select or of a flat operand is dropped. -/
def Obligations.RequestPortsRoundTrip : Prop := ∀ q : Request, q.toPorts.toRequest = some q

/-- R45: an operand port the operation does not use does not influence the request, and so not its response. -/
def Obligations.UnusedPortsDoNotInfluence : Prop :=
  (∀ (o : BitVec 3) (A B C B' C' : BitVec 256), decodeFn o ≠ some .bfly →
    (Ports.narrow o A B C).toRequest = (Ports.narrow o A B' C').toRequest) ∧
  (∀ (o : BitVec 3) (A B C B' C' : BitVec 512), decodeFn o ≠ some .bfly →
    (Ports.wide o A B C).toRequest = (Ports.wide o A B' C').toRequest)

/-- R47, R33 (ports of the other variant's width: the model's choice, log 24): ports carry a request exactly when their
select is not reserved and its variant is that of the ports' width. -/
def Obligations.PortsCarryRequestExactlyWhenLegal : Prop :=
  (∀ (o : BitVec 3) (A B C : BitVec 256),
    (Ports.narrow o A B C).toRequest = none ↔ o.extractLsb' 0 2 = 3#2 ∨ o.getLsbD 2 = true) ∧
  (∀ (o : BitVec 3) (A B C : BitVec 512),
    (Ports.wide o A B C).toRequest = none ↔ o.extractLsb' 0 2 = 3#2 ∨ o.getLsbD 2 = false)

/-- R20 (decision D5): lane i of a flat vector stands at bits [w*i+w-1 : w*i] for lanes of 16, 32 and 64 bits, a
32-bit lane overlays 16-bit lanes 2j (low half) and 2j+1 (high half), and a 64-bit lane overlays 32-bit lanes 2k and
2k+1. -/
def Obligations.FlatLayoutAndOverlay : Prop :=
  (∀ (L i : Nat) (h : i < L) (v : V16 L), (flat v).extractLsb' (16 * i) 16 = v[i]) ∧
  (∀ (L i : Nat) (h : i < L) (v : V32 L), (flat v).extractLsb' (32 * i) 32 = v[i]) ∧
  (∀ (L i : Nat) (h : i < L) (v : V64 L), (flat v).extractLsb' (64 * i) 64 = v[i]) ∧
  (∀ (L j : Nat) (h : 2 * j + 1 < L) (v : V16 L), laneAt 32 (flat v) j = v[2 * j + 1] ++ v[2 * j]) ∧
  (∀ (L k : Nat) (h : 2 * k + 1 < L) (v : V32 L), laneAt 64 (flat v) k = v[2 * k + 1] ++ v[2 * k])

/-- R32 (decision D6): the caller's stored image is little-endian: byte k holds flat bits [8k+7:8k], 16-bit lane i is
bytes 2i (low) and 2i+1, 32-bit lane j is bytes 4j to 4j+3, low byte first. -/
def Obligations.ByteImageIsLittleEndian : Prop :=
  (∀ (n k : Nat) (b : BitVec n), k < n / 8 → (byteImage b)[k]? = some (b.extractLsb' (8 * k) 8)) ∧
  (∀ (L i : Nat) (h : i < L) (v : V16 L),
    byteAt (flat v) (2 * i) = v[i].extractLsb' 0 8 ∧ byteAt (flat v) (2 * i + 1) = v[i].extractLsb' 8 8) ∧
  (∀ (L j : Nat) (h : j < L) (v : V32 L),
    byteAt (flat v) (4 * j) = v[j].extractLsb' 0 8 ∧ byteAt (flat v) (4 * j + 1) = v[j].extractLsb' 8 8 ∧
    byteAt (flat v) (4 * j + 2) = v[j].extractLsb' 16 8 ∧ byteAt (flat v) (4 * j + 3) = v[j].extractLsb' 24 8)

/-! ### Steps and requests -/

/-- R51: when the caller's next line decodes to an operation, step is exec of it, and after a response the caller goes
on to the next line of its list (R24). -/
def Obligations.StepRunsDecodedInstruction : Prop :=
  ∀ (s : State) (l : Line) (i : Instr), s.nextLine = some l → decode l = .ok i →
    (∀ t, exec i s = .next t → step s = .next { t with pos := t.pos + 1 }) ∧
    (∀ r, exec i s = .refused r → step s = .refused r)

/-- R47 (decision D4), U7: a line with a reserved select has no step. -/
def Obligations.ReservedSelectIsRefused : Prop :=
  ∀ (s : State) (l : Line), s.nextLine = some l → l.opsel = 0b011#3 ∨ l.opsel = 0b111#3 →
    step s = .refused .reservedSelect

/-- R29, R51, U10: an operation has no step exactly when one of its operand variables holds no value. -/
def Obligations.UnsetOperandIsRefused : Prop :=
  ∀ (i : Instr) (s : State), exec i s = .refused .operandUnset ↔ ∃ x ∈ i.reads, s.holds x = false

/-- The model's choice (log 4; R146 says when a run ends): where the caller's list has no further line there is no
transaction to serve, and step answers runEnded. -/
def Obligations.RunEndsAfterLastLine : Prop :=
  ∀ s : State, s.program.length ≤ s.pos → step s = .refused .runEnded

/-- The model's choice (log 6): a word of the opcode table placed as the caller's request is what the very next step
runs, from any state; its operation completes, and the configuration is untouched. -/
def Obligations.PlacedRequestRunsNext : Prop :=
  ∀ (s : State) (nbits w : Nat) (i : Instr), decodeTableWord nbits w = some i →
    ∃ t, exec i (s.withFetchWord nbits w) = .next t ∧ step (s.withFetchWord nbits w) = .next { t with pos := 1 } ∧
      t.cfg = s.cfg

/-- R132: every well-formed request has a step; after it the caller is one line further and its list and the
configuration are what they were. -/
def Obligations.EveryReadyRequestHasAStep : Prop :=
  ∀ s : State, s.RequestReady →
    ∃ t, step s = .next t ∧ t.pos = s.pos + 1 ∧ t.program = s.program ∧ t.cfg = s.cfg

/-- R120, R132: exec answers a next state or the refusal operandUnset (log 3), and step answers a next state or one of
the refusals reservedSelect (R47), operandUnset and runEnded (the model's choice, log 4): never a fault, and never
notModelled. -/
def Obligations.NothingFaults : Prop :=
  (∀ (i : Instr) (s : State), (∃ t, exec i s = .next t) ∨ exec i s = .refused .operandUnset) ∧
  (∀ s : State, (∃ t, step s = .next t) ∨ step s = .refused .reservedSelect ∨ step s = .refused .operandUnset ∨
    step s = .refused .runEnded)

/-- R14, R45, R51: every operation is the pure function serve of the configuration and the operand values, whose
response the caller binds to the destination; nothing else of the state enters. -/
def Obligations.ExecIsServeOfRequest : Prop :=
  ∀ (i : Instr) (s : State), exec i s =
    match requestOf i s with
    | some q => .next (s.deliver i.dst (serve s.cfg q))
    | none => .refused .operandUnset

/-! ### Results of the six operations: each completes, and with what -/

/-- R80 (NORM.N): its select is 000, R is on port A and the result on port Y (R45); it completes for every operand,
binds rd to the response and nothing else, and the response is the four steps run on R. The closed form of each lane
is the spec's derivation R75 (on every lane in the datapath's configuration, on NormDom in any). -/
def Obligations.NormNCompletes : Prop :=
  ∀ (rd rs : VarNo) (s : State) (v : V32 8), s.getR rs = some v →
    (encode (.normN rd rs)).opsel = 0b000#3 ∧ (∃ B C, (Request.normN v).toPorts = .narrow 0b000#3 (flat v) B C) ∧
    ∃ y : V32 8, exec (.normN rd rs) s = .next (s.bindR rd y) ∧ serve s.cfg (.normN v) = .words8 y ∧
      (serve s.cfg (.normN v)).portY = .narrow (flat y) ∧
      (s.cfg.domainReading = .determinate → s.cfg.normModel = .datapath → y = normSteps v) ∧
      ∀ i : Fin 8, (s.cfg.domainReading = .determinate ∧ s.cfg.normModel = .datapath) ∨ NormDom v[i] →
        y[i].toInt = normInt v[i].toInt

/-- R81 (NORM.W): as NormNCompletes over 16 lanes; its select is 100. -/
def Obligations.NormWCompletes : Prop :=
  ∀ (rd rs : VarNo) (s : State) (v : V32 16), s.getWideR rs = some v →
    (encode (.normW rd rs)).opsel = 0b100#3 ∧ (∃ B C, (Request.normW v).toPorts = .wide 0b100#3 (flat v) B C) ∧
    ∃ y : V32 16, exec (.normW rd rs) s = .next (s.bindWideR rd y) ∧ serve s.cfg (.normW v) = .words16 y ∧
      (serve s.cfg (.normW v)).portY = .wide (flat y) ∧
      (s.cfg.domainReading = .determinate → s.cfg.normModel = .datapath → y = normSteps v) ∧
      ∀ i : Fin 16, (s.cfg.domainReading = .determinate ∧ s.cfg.normModel = .datapath) ∨ NormDom v[i] →
        y[i].toInt = normInt v[i].toInt

/-- R96 (RED.N), R84, R95, R94: its select is 001, R is on port A and the result on port Y (R45); it completes for
every operand, binds rd to the response and nothing else; in the DATAPATH model every lane is red of the source lane
(either reading of the widening multiply, and the even and odd realization over 4 lanes of 64 bits), in the CONTRACT
model it meets the contract. -/
def Obligations.RedNCompletes : Prop :=
  ∀ (rd rs : VarNo) (s : State) (v : V32 8), s.getR rs = some v →
    (encode (.redN rd rs)).opsel = 0b001#3 ∧ (∃ B C, (Request.redN v).toPorts = .narrow 0b001#3 (flat v) B C) ∧
    ∃ y : V32 8, exec (.redN rd rs) s = .next (s.bindR rd y) ∧ serve s.cfg (.redN v) = .words8 y ∧
      (serve s.cfg (.redN v)).portY = .narrow (flat y) ∧
      (FollowsDatapath s.cfg → y = redSteps (n := 4) (by decide) s.cfg v) ∧
      (FollowsDatapath s.cfg → ∀ i : Fin 8, y[i].toInt =
        if s.cfg.widenSigned then redSignedInt s.cfg.m.toInt v[i].toInt else redInt s.cfg.m.toInt v[i].toInt) ∧
      (s.cfg.reducerModel = .contract → ∀ i : Fin 8, RedDom s.cfg.redBound v[i] →
        (y[i].toInt - v[i].toInt) % 3329 = 0 ∧ NormDom y[i])

/-- R97 (RED.W), R84, R95, R94: as RedNCompletes over 16 lanes, with 8 lanes of 64 bits between; its select is 101. -/
def Obligations.RedWCompletes : Prop :=
  ∀ (rd rs : VarNo) (s : State) (v : V32 16), s.getWideR rs = some v →
    (encode (.redW rd rs)).opsel = 0b101#3 ∧ (∃ B C, (Request.redW v).toPorts = .wide 0b101#3 (flat v) B C) ∧
    ∃ y : V32 16, exec (.redW rd rs) s = .next (s.bindWideR rd y) ∧ serve s.cfg (.redW v) = .words16 y ∧
      (serve s.cfg (.redW v)).portY = .wide (flat y) ∧
      (FollowsDatapath s.cfg → y = redSteps (n := 8) (by decide) s.cfg v) ∧
      (FollowsDatapath s.cfg → ∀ i : Fin 16, y[i].toInt =
        if s.cfg.widenSigned then redSignedInt s.cfg.m.toInt v[i].toInt else redInt s.cfg.m.toInt v[i].toInt) ∧
      (s.cfg.reducerModel = .contract → ∀ i : Fin 16, RedDom s.cfg.redBound v[i] →
        (y[i].toInt - v[i].toInt) % 3329 = 0 ∧ NormDom y[i])

/-- R115 (BFLY.N), R107: its select is 010, with X on port A, W1 on B, W2 on C and the result on Y; it completes for
every operand (aliased operands included: all are read in the old state), binds only ax, and on the datapath with
unsigned widening and the default lane order output lanes 2i and 2i+1 are the lane function of input lanes 2i and 2i+1
with W1 and W2. -/
def Obligations.BflyNCompletes : Prop :=
  ∀ (ax aw1 aw2 : VarNo) (s : State) (x w1 w2 : V16 16),
    s.getA ax = some x → s.getA aw1 = some w1 → s.getA aw2 = some w2 →
    (encode (.bflyN ax aw1 aw2)).opsel = 0b010#3 ∧
    (Request.bflyN x w1 w2).toPorts = .narrow 0b010#3 (flat x) (flat w1) (flat w2) ∧
    ∃ y : V16 16, exec (.bflyN ax aw1 aw2) s = .next (s.bindA ax y) ∧
      serve s.cfg (.bflyN x w1 w2) = .halves16 y ∧ (serve s.cfg (.bflyN x w1 w2)).portY = .narrow (flat y) ∧
      (FollowsDatapath s.cfg → s.cfg.widenSigned = false → s.cfg.packOrderN = .elementInterleave →
        ∀ (i : Nat) (h : i < 8),
          y[2 * i].toInt = bflyInt s.cfg.packModeN s.cfg.m.toInt x[2 * i].toInt x[2 * i + 1].toInt w1[2 * i].toInt
            w1[2 * i + 1].toInt ∧
          y[2 * i + 1].toInt = bflyInt s.cfg.packModeN s.cfg.m.toInt x[2 * i].toInt x[2 * i + 1].toInt
            w2[2 * i].toInt w2[2 * i + 1].toInt)

/-- R116 (BFLY.W), R107: as BflyNCompletes over 32 lanes; its select is 110. -/
def Obligations.BflyWCompletes : Prop :=
  ∀ (ax aw1 aw2 : VarNo) (s : State) (x w1 w2 : V16 32),
    s.getWideA ax = some x → s.getWideA aw1 = some w1 → s.getWideA aw2 = some w2 →
    (encode (.bflyW ax aw1 aw2)).opsel = 0b110#3 ∧
    (Request.bflyW x w1 w2).toPorts = .wide 0b110#3 (flat x) (flat w1) (flat w2) ∧
    ∃ y : V16 32, exec (.bflyW ax aw1 aw2) s = .next (s.bindWideA ax y) ∧
      serve s.cfg (.bflyW x w1 w2) = .halves32 y ∧ (serve s.cfg (.bflyW x w1 w2)).portY = .wide (flat y) ∧
      (FollowsDatapath s.cfg → s.cfg.widenSigned = false → s.cfg.packOrderW = .elementInterleave →
        ∀ (i : Nat) (h : i < 16),
          y[2 * i].toInt = bflyInt s.cfg.packModeW s.cfg.m.toInt x[2 * i].toInt x[2 * i + 1].toInt w1[2 * i].toInt
            w1[2 * i + 1].toInt ∧
          y[2 * i + 1].toInt = bflyInt s.cfg.packModeW s.cfg.m.toInt x[2 * i].toInt x[2 * i + 1].toInt
            w2[2 * i].toInt w2[2 * i + 1].toInt)

/-- R21, R108 (decision D23): BFLY reads every operand before X is rebound; in the next state ax holds the kernel's
result of the three OLD values, and a twiddle variable other than ax holds what it held. -/
def Obligations.BflyReadsBeforeBinding : Prop :=
  (∀ (ax aw1 aw2 : VarNo) (s : State) (x w1 w2 : V16 16),
    s.getA ax = some x → s.getA aw1 = some w1 → s.getA aw2 = some w2 →
    ∃ t, exec (.bflyN ax aw1 aw2) s = .next t ∧ t.getA ax = some (bflyN s.cfg x w1 w2) ∧
      (aw1 = ax → w1 = x) ∧ (aw2 = ax → w2 = x) ∧
      (aw1 ≠ ax → t.getA aw1 = some w1) ∧ (aw2 ≠ ax → t.getA aw2 = some w2)) ∧
  (∀ (ax aw1 aw2 : VarNo) (s : State) (x w1 w2 : V16 32),
    s.getWideA ax = some x → s.getWideA aw1 = some w1 → s.getWideA aw2 = some w2 →
    ∃ t, exec (.bflyW ax aw1 aw2) s = .next t ∧ t.getWideA ax = some (bflyW s.cfg x w1 w2) ∧
      (aw1 = ax → w1 = x) ∧ (aw2 = ax → w2 = x) ∧
      (aw1 ≠ ax → t.getWideA aw1 = some w1) ∧ (aw2 ≠ ax → t.getWideA aw2 = some w2))

/-! ### Frames, determinism, independence -/

/-- The frame of NORM.N, RED.N, BFLY.N, NORM.W, RED.W and BFLY.W (R16, R21, R25, R26, R29): where an operation answers
a next state, the variable it binds holds a value, every other variable of all four files holds what it held, and the
constants, the caller's list and position are unchanged. There is no flag, special register or memory to name. -/
def Obligations.OperationsBindOnlyDestination : Prop :=
  ∀ (i : Instr) (s t : State), exec i s = .next t →
    t.holds i.writes = true ∧ (∀ x : VarRef, x ≠ i.writes → s.SameAt t x) ∧
    t.cfg = s.cfg ∧ t.program = s.program ∧ t.pos = s.pos

/-- R16, R24, R40: a step never changes the constants and parameters or the caller's list, goes exactly one line
further, and leaves every variable that held a value holding one. -/
def Obligations.StepKeepsConstantsAndList : Prop :=
  ∀ s t : State, step s = .next t →
    t.cfg = s.cfg ∧ t.program = s.program ∧ t.pos = s.pos + 1 ∧ t.pos ≤ t.program.length ∧
    ∀ x : VarRef, s.holds x = true → t.holds x = true

/-- R15, R27, R114: the value an operation binds depends on the configuration and its operand values alone: two states
that agree on these bind the same value, whatever else they hold and whatever ran before. -/
def Obligations.ResultDependsOnOperandsOnly : Prop :=
  ∀ (i : Instr) (s s' t : State), s.cfg = s'.cfg → (∀ x ∈ i.reads, s.SameAt s' x) → exec i s = .next t →
    ∃ t', exec i s' = .next t' ∧ t.SameAt t' i.writes

/-- R37, R130, R139: two independent transactions give the same state in either order, and each is served whatever the
other did. -/
def Obligations.IndependentTransactionsCommute : Prop :=
  ∀ (i j : Instr) (s ti tj : State), Independent i j → exec i s = .next ti → exec j s = .next tj →
    ∃ u, exec j ti = .next u ∧ exec i tj = .next u

/-- R89, R81 (lane independence): a result lane of NORM and RED depends on the same-numbered input lane alone; and
R107: with the default lane order an output lane pair of BFLY depends on the same-numbered input lane pair alone. -/
def Obligations.LanesAreIndependent : Prop :=
  (∀ (c : Config) (v : Variant) (L : Nat) (r r' : V32 L) (i : Nat) (h : i < L), r[i] = r'[i] →
    (normVec c v r)[i] = (normVec c v r')[i] ∧ (redVec c v r)[i] = (redVec c v r')[i]) ∧
  (∀ (c : Config) (x w1 w2 x' w1' w2' : V16 16) (i : Nat) (h : i < 8), c.packOrderN = .elementInterleave →
    x[2 * i] = x'[2 * i] → x[2 * i + 1] = x'[2 * i + 1] → w1[2 * i] = w1'[2 * i] → w1[2 * i + 1] = w1'[2 * i + 1] →
    w2[2 * i] = w2'[2 * i] → w2[2 * i + 1] = w2'[2 * i + 1] →
    (bflyN c x w1 w2)[2 * i] = (bflyN c x' w1' w2')[2 * i] ∧
    (bflyN c x w1 w2)[2 * i + 1] = (bflyN c x' w1' w2')[2 * i + 1]) ∧
  (∀ (c : Config) (x w1 w2 x' w1' w2' : V16 32) (i : Nat) (h : i < 16), c.packOrderW = .elementInterleave →
    x[2 * i] = x'[2 * i] → x[2 * i + 1] = x'[2 * i + 1] → w1[2 * i] = w1'[2 * i] → w1[2 * i + 1] = w1'[2 * i + 1] →
    w2[2 * i] = w2'[2 * i] → w2[2 * i + 1] = w2'[2 * i + 1] →
    (bflyW c x w1 w2)[2 * i] = (bflyW c x' w1' w2')[2 * i] ∧
    (bflyW c x w1 w2)[2 * i + 1] = (bflyW c x' w1' w2')[2 * i + 1])

/-! ### Lane primitives -/

/-- R54, R55, R57, R58, R60: add, subtract and low multiply wrap modulo 2^32 in every lane; and, andnot per bit. -/
def Obligations.LaneArithmeticWraps : Prop :=
  ∀ (L i : Nat) (h : i < L) (a b : V32 L),
    (add32 a b)[i].toInt = wrapInt 32 (a[i].toInt + b[i].toInt) ∧
    (sub32 a b)[i].toInt = wrapInt 32 (a[i].toInt - b[i].toInt) ∧
    (mullo32 a b)[i].toNat = (a[i].toInt * b[i].toInt) % 4294967296 ∧
    (∀ k, (and32 a b)[i].getLsbD k = (a[i].getLsbD k && b[i].getLsbD k)) ∧
    (∀ k, k < 32 → (andnot32 a b)[i].getLsbD k = (!a[i].getLsbD k && b[i].getLsbD k))

/-- R56: the arithmetic right shift by k, 0 to 31, is the floor of the signed value over 2^k; by 31 it is -1 or 0. -/
def Obligations.ArithmeticShiftIsFloor : Prop :=
  ∀ (L i k : Nat) (h : i < L) (a : V32 L), k ≤ 31 →
    (sra32 a k)[i].toInt = Int.fdiv a[i].toInt (2 ^ k) ∧
    (sra32 a 31)[i] = if a[i].toInt < 0 then 0xFFFFFFFF#32 else 0#32

/-- R61 to R63, R88 (the equality, the bounds and the sign-agnostic low half are derived in the spec): the even and
odd widening multiplies recombined are the per-lane high multiply, in either reading; unsigned by q its lanes lie in
[0, 3328], signed in [-1665, 1664]; and the low multiply of R60 is the same whether its operands are read signed or
unsigned. -/
def Obligations.EvenOddMultiplyIsHighMultiply : Prop :=
  (∀ (L n : Nat) (h : L = 2 * n) (sg : Bool) (a : V32 L) (c : Lane32),
    recombineHi h (mulwideEven h sg a c) (mulwideOdd h sg a c) = mulhi32 sg a c) ∧
  (∀ a c : Lane32, (mulhiLane false a c).toNat = a.toNat * c.toNat / 4294967296) ∧
  (∀ a c : Lane32, (mulhiLane true a c).toInt = Int.fdiv (a.toInt * c.toInt) 4294967296) ∧
  (∀ a : Lane32, (mulhiLane false a 3329#32).toNat ≤ 3328) ∧
  (∀ a : Lane32, -1665 ≤ (mulhiLane true a 3329#32).toInt ∧ (mulhiLane true a 3329#32).toInt ≤ 1664) ∧
  (∀ (L i : Nat) (h : i < L) (a b : V32 L), (mullo32 a b)[i].toNat = (a[i].toNat * b[i].toNat) % 4294967296)

/-- R64 (decision D10): lane i is made of the lanes 2i and 2i+1; with the wrap of the default it is the signed sum
wrapped to 32 bits; in every configuration it is the exact signed sum, but for the one input of four -32768, where
with the wrap of the default it is -2147483648; on canonical lanes it lies in [0, 22151168] in any configuration. -/
def Obligations.MaddIsExactButOnce : Prop :=
  (∀ (m n i : Nat) (h : m = 2 * n) (hi : i < n) (c : Config) (x w : V16 m),
    (madd16 h c x w)[i] = maddLane c x[2 * i] x[2 * i + 1] w[2 * i] w[2 * i + 1]) ∧
  ∀ (c : Config) (x0 x1 w0 w1 : Lane16),
    (c.maddOverflow = .wrap →
      (maddLane c x0 x1 w0 w1).toInt = wrapInt 32 (x0.toInt * w0.toInt + x1.toInt * w1.toInt)) ∧
    (¬(x0 = 0x8000#16 ∧ x1 = 0x8000#16 ∧ w0 = 0x8000#16 ∧ w1 = 0x8000#16) →
      (maddLane c x0 x1 w0 w1).toInt = x0.toInt * w0.toInt + x1.toInt * w1.toInt) ∧
    (c.maddOverflow = .wrap → (maddLane c 0x8000#16 0x8000#16 0x8000#16 0x8000#16).toInt = -2147483648) ∧
    (PairDom x0 x1 w0 w1 →
      0 ≤ (maddLane c x0 x1 w0 w1).toInt ∧ (maddLane c x0 x1 w0 w1).toInt ≤ 22151168)

/-- R65, R66 (decision D12): truncation wraps to 16 bits, signed saturation clamps, and unsigned saturation clamps to
[0, 65535]; the first two are the identity on [-32768, 32767] and all three on [0, 32767]. -/
def Obligations.NarrowingsAndTheirAgreement : Prop :=
  ∀ v : Lane32,
    (narrowTrunc v).toInt = wrapInt 16 v.toInt ∧
    (narrowSsat v).toInt = max (-32768) (min 32767 v.toInt) ∧
    ((narrowUsat v).toNat : Int) = max 0 (min 65535 v.toInt) ∧
    (-32768 ≤ v.toInt → v.toInt ≤ 32767 → (narrowTrunc v).toInt = v.toInt ∧ narrowSsat v = narrowTrunc v) ∧
    (0 ≤ v.toInt → v.toInt ≤ 32767 → narrowUsat v = narrowTrunc v)

/-- R67 (decision D11): the three lane orders of the pack, lane by lane. -/
def Obligations.PackOrdersLaneByLane : Prop :=
  ∀ (n m : Nat) (hm : m = 2 * n) (h4 : n % 4 = 0) (mode : PackMode) (n1 n2 : V32 n),
    (∀ (i : Nat) (h : i < n),
      (pack hm h4 .elementInterleave mode n1 n2)[2 * i]'(by omega) = narrowLane mode n1[i] ∧
      (pack hm h4 .elementInterleave mode n1 n2)[2 * i + 1]'(by omega) = narrowLane mode n2[i] ∧
      (pack hm h4 .concat mode n1 n2)[i]'(by omega) = narrowLane mode n1[i] ∧
      (pack hm h4 .concat mode n1 n2)[n + i]'(by omega) = narrowLane mode n2[i]) ∧
    (∀ (b j : Nat) (hb : 4 * b + j < n) (hj : j < 4),
      (pack hm h4 .block4 mode n1 n2)[8 * b + j]'(by omega) = narrowLane mode n1[4 * b + j] ∧
      (pack hm h4 .block4 mode n1 n2)[8 * b + 4 + j]'(by omega) = narrowLane mode n2[4 * b + j])

/-! ### Normalizer -/

/-- R71 (90_conflicts.md C5): the first mask is all-ones exactly when t1 is negative; that is "r < q" from -2147480319
up, and below it the subtraction wraps and the mask is all-zero although r < q. -/
def Obligations.NormalizerFirstMask : Prop :=
  ∀ r : Lane32,
    (normT1 r).toInt = wrapInt 32 (r.toInt - 3329) ∧
    signMask (normT1 r) = (if (normT1 r).toInt < 0 then 0xFFFFFFFF#32 else 0#32) ∧
    (-2147480319 ≤ r.toInt → ((normT1 r).toInt < 0 ↔ r.toInt < 3329)) ∧
    (r.toInt < -2147480319 → 0 < (normT1 r).toInt ∧ signMask (normT1 r) = 0#32)

/-- R72 to R74: the second step subtracts q or nothing and lands in [-q, q) on NormDom, and the last step adds q
exactly to a negative lane, without wrapping. -/
def Obligations.NormalizerCorrectionSteps : Prop :=
  (∀ r : Lane32, normR1 r = if (normT1 r).toInt < 0 then r else normT1 r) ∧
  (∀ r : Lane32, NormDom r → -3329 ≤ (normR1 r).toInt ∧ (normR1 r).toInt < 3329) ∧
  (∀ r1 : Lane32, (normFix r1).toInt = if r1.toInt < 0 then r1.toInt + 3329 else r1.toInt)

/-- R75 (derived there): the four steps are the closed form on every 32-bit lane, and run on a whole vector they give
that lane function in every lane. -/
def Obligations.NormalizerClosedForm : Prop :=
  (∀ r : Lane32, (normDatapath r).toInt = normInt r.toInt) ∧
  (∀ (L : Nat) (r : V32 L), normSteps r = mapLanes normDatapath r)

/-- R70, R76: in every configuration and variant, a lane in [-q, 2q) is normalized to the canonical value congruent to
it. -/
def Obligations.NormalizerMeetsContract : Prop :=
  ∀ (c : Config) (v : Variant) (r : Lane32), NormDom r →
    CanonInt (normLane c v r).toInt ∧ ((normLane c v r).toInt - r.toInt) % 3329 = 0 ∧
    (normLane c v r).toInt = r.toInt % 3329

/-- R77 (derived in part): a canonical lane is left as it is, normalizing twice is normalizing once on NormDom, and
not outside it (9987, 6658, 3329, 0). -/
def Obligations.NormalizerIdempotentOnDomain : Prop :=
  (∀ (c : Config) (v : Variant) (r : Lane32), CanonInt r.toInt → normLane c v r = r) ∧
  (∀ (c : Config) (v : Variant) (r : Lane32), NormDom r → normLane c v (normLane c v r) = normLane c v r) ∧
  normDatapath 9987#32 = 6658#32 ∧ normDatapath 6658#32 = 3329#32 ∧ normDatapath 3329#32 = 0#32

/-- R78 (derived there): outside NormDom the datapath value is not canonical, it stays congruent from -2147480319 up,
and below that it is the input plus 2^32 - q and congruence is lost. -/
def Obligations.NormalizerOutsideDomain : Prop :=
  ∀ r : Lane32, ¬ NormDom r →
    ¬ CanonInt (normDatapath r).toInt ∧
    (-2147480319 ≤ r.toInt → ((normDatapath r).toInt - r.toInt) % 3329 = 0) ∧
    (r.toInt < -2147480319 → (normDatapath r).toInt = r.toInt + 4294963967 ∧
      ((normDatapath r).toInt - r.toInt) % 3329 ≠ 0)

/-! ### Reducer -/

/-- R84 (decision D9): with the unsigned widening the step list is the pseudocode over the integers for every M and
every lane, with u in [0, 3328] and p = u * q at most 11078912. -/
def Obligations.ReducerStepListOverIntegers : Prop :=
  ∀ (c : Config) (v : Lane32), c.widenSigned = false →
    ((redT c v).toNat : Int) = redTInt c.m.toInt v.toInt ∧
    ((redU c (redT c v)).toNat : Int) = redUInt c.m.toInt v.toInt ∧ (redU c (redT c v)).toNat ≤ 3328 ∧
    (redP (redU c (redT c v))).toNat = (redU c (redT c v)).toNat * 3329 ∧
    (redP (redU c (redT c v))).toNat ≤ 11078912 ∧
    (redDatapath c v).toInt = redInt c.m.toInt v.toInt

/-- R95 (decision D8): the signed alternative over the integers, with u in [-1665, 1664]. -/
def Obligations.ReducerSignedAlternative : Prop :=
  ∀ (c : Config) (v : Lane32), c.widenSigned = true →
    (redU c (redT c v)).toInt = redUSignedInt c.m.toInt v.toInt ∧
    -1665 ≤ (redU c (redT c v)).toInt ∧ (redU c (redT c v)).toInt ≤ 1664 ∧
    (redDatapath c v).toInt = redSignedInt c.m.toInt v.toInt

/-- R88: the vector step list with the even and odd widening multiplies gives the same lanes as the per-lane step
list, in either reading and for every even lane count. -/
def Obligations.ReducerEvenOddSteps : Prop :=
  ∀ (L n : Nat) (h : L = 2 * n) (c : Config) (r : V32 L), redSteps h c r = mapLanes (redDatapath c) r

/-- R90, R91, R93, R95 (derived there): for every M and either reading of the widening multiply the result is the
input less u * q, and so congruent to it, wherever that difference fits 32 bits. Unsigned this is so from -2136404736
up, where the result lies between the input less 11078912 and the input; signed it is so from -2141944192 to
2141940862, where the result lies between the input less 5539456 and the input plus 5542785. -/
def Obligations.ReducerKeepsResidueClass : Prop :=
  (∀ (c : Config) (v : Lane32) (u : Int),
    u = (if c.widenSigned then redUSignedInt c.m.toInt v.toInt else redUInt c.m.toInt v.toInt) →
    -2147483648 ≤ v.toInt - u * 3329 → v.toInt - u * 3329 ≤ 2147483647 →
    (redDatapath c v).toInt = v.toInt - u * 3329 ∧ ((redDatapath c v).toInt - v.toInt) % 3329 = 0) ∧
  (∀ (c : Config) (v : Lane32), c.widenSigned = false → -2136404736 ≤ v.toInt →
    v.toInt - 11078912 ≤ (redDatapath c v).toInt ∧ (redDatapath c v).toInt ≤ v.toInt ∧
    ((redDatapath c v).toInt - v.toInt) % 3329 = 0) ∧
  (∀ (c : Config) (v : Lane32), c.widenSigned = true → -2141944192 ≤ v.toInt → v.toInt ≤ 2141940862 →
    v.toInt - 5539456 ≤ (redDatapath c v).toInt ∧ (redDatapath c v).toInt ≤ v.toInt + 5542785 ∧
    ((redDatapath c v).toInt - v.toInt) % 3329 = 0)

/-- R92 (90_conflicts.md C2): for every M, the step list leaves NormDom for every input from 11085570 up and every
input below -3329, so it does not meet the contract of R83. -/
def Obligations.ReducerRangeClaimRefuted : Prop :=
  (∀ (c : Config) (v : Lane32), c.widenSigned = false → 11085570 ≤ v.toInt ∨ v.toInt < -3329 →
    ¬ NormDom (redDatapath c v)) ∧
  (∀ (c : Config) (bound : Nat), c.widenSigned = false → 3330 ≤ bound → ¬ RedContract bound (redDatapath c))

/-- R85 and 95_test_vectors.md V-RED-1 (both derived there), with the hardware's M: t is 0 exactly when the input is
0; with the unsigned widening u is the input and the result is -3328 times it on [0, 3328], and at 3329 u is 0. -/
def Obligations.ReducerWithHardwareM : Prop :=
  ∀ (c : Config) (v : Lane32), c.m = Config.mLiteral →
    (redT c v = 0#32 ↔ v = 0#32) ∧
    (c.widenSigned = false →
      (v.toNat ≤ 3328 → redU c (redT c v) = v ∧ (redDatapath c v).toInt = -3328 * v.toInt) ∧
      (v.toNat = 3329 → redU c (redT c v) = 0#32))

/-- R94 (decision D9; the form of the free choice is the model's, log 10): in the CONTRACT model the Reducer meets the
contract of R83; on RedDom it is the residue moved by what the free choice says, and every value the contract allows
is one of the three that choice picks from, so the model leaves it no less free than the rule does; and in the
determinate reading it is one function, the same in both variants on every lane. -/
def Obligations.ContractReducerIsExactlyContract : Prop :=
  (∀ (c : Config) (v : Variant), c.reducerModel = .contract → RedContract c.redBound (redLane c v)) ∧
  (∀ (c : Config) (v : Variant) (x : Lane32), c.reducerModel = .contract → RedDom c.redBound x →
    redLane c v x = wrap32 (x.toInt % 3329 + 3329 * (((Config.reducerChoice x).val : Int) - 1))) ∧
  (∀ x y : Lane32, (y.toInt - x.toInt) % 3329 = 0 → NormDom y →
    ∃ k : Fin 3, y = wrap32 (x.toInt % 3329 + 3329 * ((k.val : Int) - 1))) ∧
  (∀ (c : Config) (x : Lane32), c.reducerModel = .contract → c.domainReading = .determinate →
    redLane c .narrow x = redLane c .wide x)

/-- R94 (derived there): in the CONTRACT model the Normalizer of the Reducer of a lane is the lane modulo q. -/
def Obligations.ContractNormalizedIsRemainder : Prop :=
  ∀ (c : Config) (v : Variant) (x : Lane32), c.reducerModel = .contract → RedDom c.redBound x →
    (normLane c v (redLane c v x)).toInt = x.toInt % 3329

/-- 93_implementation_defined.md U1: on a lane inside its domain the two readings of out-of-domain input, and the two
Normalizer models of U2, give the same value. -/
def Obligations.ReadingsAgreeInsideDomain : Prop :=
  (∀ (c : Config) (v : Variant) (dr : DomainReading) (nm : NormModel) (r : Lane32), NormDom r →
    normLane { c with domainReading := dr, normModel := nm } v r = normLane c v r) ∧
  (∀ (c : Config) (v : Variant) (dr : DomainReading) (r : Lane32), RedDom c.redBound r →
    redLane { c with domainReading := dr } v r = redLane c v r)

/-! ### Butterfly kernel -/

/-- R102 to R106: in the determinate reading the kernel is its five steps: two multiply-accumulates, reduce, normalize
and the pack in the variant's mode and order; with the wrap of the default each multiply-accumulate lane is the
wrapped sum of R102 and R103, and on the datapath the reduce and normalize steps are red and norm in every lane. -/
def Obligations.BflyIsFiveSteps : Prop :=
  (∀ (c : Config) (x w1 w2 : V16 16), c.domainReading = .determinate →
    bflyN c x w1 w2 = pack (n := 8) (by decide) (by decide) c.packOrderN c.packModeN
      (normVec c .narrow (redVec c .narrow (madd16 (by decide) c x w1)))
      (normVec c .narrow (redVec c .narrow (madd16 (by decide) c x w2)))) ∧
  (∀ (c : Config) (x w1 w2 : V16 32), c.domainReading = .determinate →
    bflyW c x w1 w2 = pack (n := 16) (by decide) (by decide) c.packOrderW c.packModeW
      (normVec c .wide (redVec c .wide (madd16 (by decide) c x w1)))
      (normVec c .wide (redVec c .wide (madd16 (by decide) c x w2)))) ∧
  (∀ (m n i : Nat) (h : m = 2 * n) (hi : i < n) (c : Config) (x w : V16 m), c.maddOverflow = .wrap →
    (madd16 h c x w)[i].toInt
      = wrapInt 32 (x[2 * i].toInt * w[2 * i].toInt + x[2 * i + 1].toInt * w[2 * i + 1].toInt)) ∧
  (∀ (c : Config) (v : Variant) (n i : Nat) (hi : i < n) (r : V32 n), FollowsDatapath c →
    (redVec c v r)[i] = redDatapath c r[i] ∧ (normVec c v r)[i] = normDatapath r[i])

/-- R111 (derived there), the headline of the CONTRACT model: on operands in BflyDom, with the default lane order,
BFLY.N and BFLY.W complete and bind X to the scalar reference, in every pack mode and every reading. -/
def Obligations.ContractBflyIsScalarReference : Prop :=
  (∀ (ax aw1 aw2 : VarNo) (s : State) (x w1 w2 : V16 16), MeetsContract s.cfg →
    s.cfg.packOrderN = .elementInterleave → s.getA ax = some x → s.getA aw1 = some w1 → s.getA aw2 = some w2 →
    BflyDom x w1 w2 → exec (.bflyN ax aw1 aw2) s = .next (s.bindA ax (bflyRefN x w1 w2))) ∧
  (∀ (ax aw1 aw2 : VarNo) (s : State) (x w1 w2 : V16 32), MeetsContract s.cfg →
    s.cfg.packOrderW = .elementInterleave → s.getWideA ax = some x → s.getWideA aw1 = some w1 →
    s.getWideA aw2 = some w2 → BflyDom x w1 w2 →
    exec (.bflyW ax aw1 aw2) s = .next (s.bindWideA ax (bflyRefW x w1 w2)))

/-- R113 (derived there), the equivalence of the two variants with the default lane order in both: BFLY.W of two
halves is BFLY.N of each. In the determinate reading, in the DATAPATH and the CONTRACT model alike, wherever the pack
modes are equal, or neither saturates unsigned and every normalized lane lies in [-32768, 32767]; and where the
Reducer meets its contract, on canonical operands, in every reading and pack mode. -/
def Obligations.CrossWidthEquivalence : Prop :=
  ∀ (c : Config) (xa xb ua ub va vb : V16 16), c.packOrderN = .elementInterleave → c.packOrderW = .elementInterleave →
    ((c.domainReading = .determinate ∧
        (c.packModeN = c.packModeW ∨
          (c.packModeN ≠ .usat ∧ c.packModeW ≠ .usat ∧
            ∀ xw ∈ [(xa, ua), (xa, va), (xb, ub), (xb, vb)], ∀ i : Fin 8,
              -32768 ≤ (branchNorm (n := 8) (by decide) c .narrow xw.1 xw.2)[i].toInt ∧
              (branchNorm (n := 8) (by decide) c .narrow xw.1 xw.2)[i].toInt ≤ 32767))) ∨
      (MeetsContract c ∧ BflyDom xa ua va ∧ BflyDom xb ub vb)) →
    bflyW c (joinHalves xa xb) (joinHalves ua ub) (joinHalves va vb)
      = joinHalves (bflyN c xa ua va) (bflyN c xb ub vb)

/-- R81, R89 (derived there): in the determinate reading, in the DATAPATH and the CONTRACT model alike, NORM.W and
RED.W of two halves are NORM.N and RED.N of each. -/
def Obligations.WideLanesAreNarrowLanes : Prop :=
  ∀ (c : Config) (a b : V32 8), c.domainReading = .determinate →
    normVec c .wide (joinWords a b) = joinWords (normVec c .narrow a) (normVec c .narrow b) ∧
    redVec c .wide (joinWords a b) = joinWords (redVec c .narrow a) (redVec c .narrow b)

/-- R68 law 9, R115 and R116 corner case: on the datapath all-zero operands of NORM and RED give all-zero results, and
an all-zero X gives an all-zero BFLY result whatever the twiddles. -/
def Obligations.ZeroMapsToZero : Prop :=
  ∀ c : Config, FollowsDatapath c →
    normDatapath 0#32 = 0#32 ∧ redDatapath c 0#32 = 0#32 ∧
    (∀ w1 w2 : V16 16, bflyN c (Vector.replicate 16 0#16) w1 w2 = Vector.replicate 16 0#16) ∧
    (∀ w1 w2 : V16 32, bflyW c (Vector.replicate 32 0#16) w1 w2 = Vector.replicate 32 0#16)

/-- R117: on the boundary input (every lane q - 1) the multiply-accumulate is 22151168, under BflyDom no lane
overflows, the reduced lane 13362608 is outside [-q, 2q), and the result lane is 32767 in variant N and -10065 in
variant W, where the reference is 2. -/
def Obligations.BoundaryInput : Prop :=
  (maddLane Config.hardware 3328#16 3328#16 3328#16 3328#16).toInt = 22151168 ∧
  (∀ (c : Config) (x0 x1 w0 w1 : Lane16), PairDom x0 x1 w0 w1 →
    (maddLane c x0 x1 w0 w1).toInt = x0.toInt * w0.toInt + x1.toInt * w1.toInt) ∧
  (redDatapath Config.hardware 22151168#32).toInt = 13362608 ∧ ¬ NormDom (redDatapath Config.hardware 22151168#32) ∧
  (normDatapath 13362608#32).toInt = 13359279 ∧
  bflyN Config.hardware (splat 16 3328#16) (splat 16 3328#16) (splat 16 3328#16) = splat 16 32767#16 ∧
  bflyW Config.hardware (splat 32 3328#16) (splat 32 3328#16) (splat 32 3328#16) = splat 32 0xD8AF#16 ∧
  refLane 3328#16 3328#16 3328#16 3328#16 = 2#16

/-- R112, R113 (90_conflicts.md C3, C4), with the hardware's configuration: there are operands in BflyDom on which
BFLY.N and BFLY.W do not give the scalar reference, and on which the two variants differ (lane 0 is -32768 in variant
N and -10494 in variant W). -/
def Obligations.ClaimsRefutedOnHardware : Prop :=
  ∃ x w1 w2 : V16 16, BflyDom x w1 w2 ∧ BflyDom (joinHalves x x) (joinHalves w1 w1) (joinHalves w2 w2) ∧
    bflyN Config.hardware x w1 w2 ≠ bflyRefN x w1 w2 ∧
    bflyW Config.hardware (joinHalves x x) (joinHalves w1 w1) (joinHalves w2 w2)
      ≠ bflyRefW (joinHalves x x) (joinHalves w1 w1) (joinHalves w2 w2) ∧
    (bflyN Config.hardware x w1 w2)[0] = (-32768 : Lane16) ∧
    (bflyW Config.hardware (joinHalves x x) (joinHalves w1 w1) (joinHalves w2 w2))[0] = (-10494 : Lane16)

/-! ### Reset and the invariant -/

/-- R28, R134 (M: 90_conflicts.md C1): after reset no caller variable holds a value, Q is 3329 and M is 1290515. -/
def Obligations.ResetState : Prop :=
  (∀ x : VarRef, State.reset.holds x = false) ∧ Config.Q = 3329 ∧ State.reset.cfg.m = 1290515#32

/-- The invariant holds after reset; and, the model's choices (log 2, log 20), the parameters are those R12, U1, U2
and U11 give this hardware by default, the caller's list is empty and the position in it is 0. -/
def Obligations.ResetMeetsInvariant : Prop :=
  State.reset.Inv ∧ State.reset.cfg = Config.hardware ∧ State.reset.program = [] ∧ State.reset.pos = 0

/-- R24, R94, R110, R111 (derived there): every step keeps the caller's position in its list, and where the Reducer
meets its contract it keeps every coefficient variable canonical, in every pack mode, lane order and reading. -/
def Obligations.InvariantKeptByEveryStep : Prop := ∀ s t : State, s.Inv → step s = .next t → t.Inv
end

