-- ==== Sys2Proof/Laws/Lanes.lean ====
section
/-!
SUPPORT. What each lane-vector operation gives in a lane, and the plain bit-vector form of each lane law.
-/

namespace Sys2Proof.Machine

open Sys2Proof

/-! ### A lane of a lane-vector operation -/

@[simp] theorem mapLanes_getElem {α β : Type} {L : Nat} (f : α → β) (a : Vector α L) (i : Nat) (h : i < L) :
    (mapLanes f a)[i] = f a[i] := by simp [mapLanes]

@[simp] theorem mapLanes₂_getElem {α β γ : Type} {L : Nat} (f : α → β → γ) (a : Vector α L) (b : Vector β L) (i : Nat)
    (h : i < L) : (mapLanes₂ f a b)[i] = f a[i] b[i] := by simp [mapLanes₂]

@[simp] theorem splat_getElem {α : Type} (L : Nat) (x : α) (i : Nat) (h : i < L) : (splat L x)[i] = x := by
  simp [splat]

@[simp] theorem add32_getElem {L : Nat} (a b : V32 L) (i : Nat) (h : i < L) : (add32 a b)[i] = addLane a[i] b[i] := by
  simp [add32]

@[simp] theorem sub32_getElem {L : Nat} (a b : V32 L) (i : Nat) (h : i < L) : (sub32 a b)[i] = subLane a[i] b[i] := by
  simp [sub32]

@[simp] theorem sra32_getElem {L : Nat} (a : V32 L) (k i : Nat) (h : i < L) : (sra32 a k)[i] = sraLane a[i] k := by
  simp [sra32]

@[simp] theorem and32_getElem {L : Nat} (a b : V32 L) (i : Nat) (h : i < L) : (and32 a b)[i] = andLane a[i] b[i] := by
  simp [and32]

@[simp] theorem andnot32_getElem {L : Nat} (a b : V32 L) (i : Nat) (h : i < L) :
    (andnot32 a b)[i] = andnotLane a[i] b[i] := by simp [andnot32]

@[simp] theorem mullo32_getElem {L : Nat} (a b : V32 L) (i : Nat) (h : i < L) :
    (mullo32 a b)[i] = mulloLane a[i] b[i] := by simp [mullo32]

@[simp] theorem mulhi32_getElem {L : Nat} (sg : Bool) (a : V32 L) (c : Lane32) (i : Nat) (h : i < L) :
    (mulhi32 sg a c)[i] = mulhiLane sg a[i] c := by simp [mulhi32]

@[simp] theorem mulwideEven_getElem {L n : Nat} (hL : L = 2 * n) (sg : Bool) (a : V32 L) (c : Lane32) (k : Nat)
    (h : k < n) : (mulwideEven hL sg a c)[k] = mulwideLane sg (a[2 * k]'(by omega)) c := by simp [mulwideEven]

@[simp] theorem mulwideOdd_getElem {L n : Nat} (hL : L = 2 * n) (sg : Bool) (a : V32 L) (c : Lane32) (k : Nat)
    (h : k < n) : (mulwideOdd hL sg a c)[k] = mulwideLane sg (a[2 * k + 1]'(by omega)) c := by simp [mulwideOdd]

@[simp] theorem recombineHi_getElem {L n : Nat} (hL : L = 2 * n) (pe po : V64 n) (i : Nat) (h : i < L) :
    (recombineHi hL pe po)[i]
      = if i % 2 = 0 then highHalf (pe[i / 2]'(by omega)) else highHalf (po[i / 2]'(by omega)) := by
  simp [recombineHi]

@[simp] theorem madd16_getElem {m n : Nat} (hm : m = 2 * n) (c : Config) (x w : V16 m) (i : Nat)
    (h : i < n) :
    (madd16 hm c x w)[i] = maddLane c (x[2 * i]'(by omega)) (x[2 * i + 1]'(by omega)) (w[2 * i]'(by omega))
      (w[2 * i + 1]'(by omega)) := by simp [madd16]

@[simp] theorem interleave_getElem {m n : Nat} (hm : m = 2 * n) (y1 y2 : V16 n) (j : Nat) (h : j < m) :
    (interleave hm y1 y2)[j] = if j % 2 = 0 then y1[j / 2]'(by omega) else y2[j / 2]'(by omega) := by
  simp [interleave]

@[simp] theorem concatLanes_getElem {α : Type} {m n : Nat} (hm : m = 2 * n) (y1 y2 : Vector α n) (j : Nat) (h : j < m) :
    (concatLanes hm y1 y2)[j] = if hj : j < n then y1[j]'hj else y2[j - n]'(by omega) := by
  simp [concatLanes]

@[simp] theorem block4_getElem {m n : Nat} (hm : m = 2 * n) (h4 : n % 4 = 0) (y1 y2 : V16 n) (j : Nat) (h : j < m) :
    (block4 hm h4 y1 y2)[j] = if j % 8 < 4 then y1[4 * (j / 8) + j % 4]'(by omega)
      else y2[4 * (j / 8) + j % 4]'(by omega) := by
  simp [block4]

/-- Every lane of an arranged vector is a lane of one of the two it was made of (R67), whatever the order. -/
theorem arrange_forall {m n : Nat} (hm : m = 2 * n) (h4 : n % 4 = 0) (o : PackOrder) (y1 y2 : V16 n)
    (p : Lane16 → Prop) (h1 : ∀ (i : Nat) (h : i < n), p y1[i]) (h2 : ∀ (i : Nat) (h : i < n), p y2[i])
    (j : Nat) (h : j < m) : p (arrange hm h4 o y1 y2)[j] := by
  cases o with
  | elementInterleave => simp only [arrange, interleave_getElem]; split <;> simp_all
  | concat => simp only [arrange, concatLanes_getElem]; split <;> simp_all
  | block4 => simp only [arrange, block4_getElem]; split <;> simp_all

/-! ### Each lane law as a bit-vector operation -/

theorem addLane_eq (a b : Lane32) : addLane a b = a + b := by
  simp [addLane, wrap32, BitVec.ofInt_add]

theorem subLane_eq (a b : Lane32) : subLane a b = a - b := by
  apply BitVec.eq_of_toInt_eq
  simp [subLane, wrap32, BitVec.toInt_ofInt, BitVec.toInt_sub]

theorem mulloLane_eq (a b : Lane32) : mulloLane a b = a * b := by
  simp [mulloLane, wrap32, BitVec.ofInt_mul]

theorem sraLane_eq (a : Lane32) (k : Nat) : sraLane a k = a.sshiftRight k := by
  apply BitVec.eq_of_toInt_eq
  rw [BitVec.toInt_sshiftRight, sraLane, wrap32, BitVec.toInt_ofInt, Int.shiftRight_eq_div_pow]
  have h1 := BitVec.toInt_lt (x := a)
  have h2 := BitVec.le_toInt (x := a)
  have h3 : (1 : Int) ≤ 2 ^ k := by exact_mod_cast Nat.one_le_two_pow
  norm_num at h1 h2 ⊢
  have h4 : a.toInt / 2 ^ k < 2147483648 := by
    apply Int.ediv_lt_of_lt_mul (by omega)
    nlinarith
  have h5 : -2147483648 ≤ a.toInt / 2 ^ k := by
    apply Int.le_ediv_of_mul_le (by omega)
    nlinarith
  rw [Int.bmod_eq_of_le] <;> omega

/-- The signed reading of a wrapped integer (00_scope.md section 4). -/
theorem wrap32_toInt (z : Int) : (wrap32 z).toInt = z.bmod 4294967296 := by simp [wrap32, BitVec.toInt_ofInt]

theorem wrap16_toInt (z : Int) : (wrap16 z).toInt = z.bmod 65536 := by simp [wrap16, BitVec.toInt_ofInt]

/-- An integer of the 32-bit range is its own wrapped value. -/
theorem wrap32_toInt_of_range {z : Int} (h1 : -2147483648 ≤ z) (h2 : z < 2147483648) : (wrap32 z).toInt = z := by
  rw [wrap32_toInt, Int.bmod_eq_of_le] <;> omega

theorem wrap16_toInt_of_range {z : Int} (h1 : -32768 ≤ z) (h2 : z < 32768) : (wrap16 z).toInt = z := by
  rw [wrap16_toInt, Int.bmod_eq_of_le] <;> omega

/-- The range of a lane (R10). -/
theorem lane32_range (a : Lane32) : -2147483648 ≤ a.toInt ∧ a.toInt < 2147483648 := by
  have h1 := BitVec.toInt_lt (x := a)
  have h2 := BitVec.le_toInt (x := a)
  norm_num at h1 h2
  exact ⟨h2, h1⟩

theorem lane16_range (a : Lane16) : -32768 ≤ a.toInt ∧ a.toInt < 32768 := by
  have h1 := BitVec.toInt_lt (x := a)
  have h2 := BitVec.le_toInt (x := a)
  norm_num at h1 h2
  exact ⟨h2, h1⟩

end Sys2Proof.Machine
end

