-- ==== Sys2Proof/Laws/Datapath.lean ====
section
/-!
SUPPORT. What each datapath function gives in a lane, and which function a configuration chooses.
-/

namespace Sys2Proof.Machine

open Sys2Proof

@[simp] theorem qLane_eq : qLane = 3329#32 := rfl

@[simp] theorem normVec_getElem {L : Nat} (c : Config) (v : Variant) (r : V32 L) (i : Nat) (h : i < L) :
    (normVec c v r)[i] = normLane c v r[i] := by simp [normVec]

@[simp] theorem redVec_getElem {L : Nat} (c : Config) (v : Variant) (r : V32 L) (i : Nat) (h : i < L) :
    (redVec c v r)[i] = redLane c v r[i] := by simp [redVec]

@[simp] theorem branchNorm_getElem {m n : Nat} (hm : m = 2 * n) (c : Config) (v : Variant) (x w : V16 m) (i : Nat)
    (h : i < n) :
    (branchNorm hm c v x w)[i] = normLane c v (redLane c v (maddLane c (x[2 * i]'(by omega))
      (x[2 * i + 1]'(by omega)) (w[2 * i]'(by omega)) (w[2 * i + 1]'(by omega)))) := by simp [branchNorm]

@[simp] theorem branchOut_getElem {m n : Nat} (hm : m = 2 * n) (c : Config) (v : Variant) (b : Branch) (x w : V16 m)
    (i : Nat) (h : i < n) :
    (branchOut hm c v b x w)[i] = branchLane c v b (x[2 * i]'(by omega)) (x[2 * i + 1]'(by omega))
      (w[2 * i]'(by omega)) (w[2 * i + 1]'(by omega)) (narrowLane (c.packMode v) (branchNorm hm c v x w)[i]) := by
  simp [branchOut]

/-- In the determinate reading both variants apply the one `norm` of the configuration, and so they do on NormDom. -/
theorem normLane_eq_normFn {c : Config} {v : Variant} {r : Lane32} (h : c.domainReading = .determinate ∨ NormDom r) :
    normLane c v r = normFn c r := by
  unfold normLane
  rcases h with h | h
  · simp [h]
  · exact if_neg fun hc => hc.2 h

/-- The four steps run wherever the configuration follows the datapath, and on the domain in every configuration. -/
theorem normLane_eq_datapath {c : Config} {v : Variant} {r : Lane32}
    (h : (c.domainReading = .determinate ∧ c.normModel = .datapath) ∨ NormDom r) : normLane c v r = normDatapath r := by
  rw [normLane_eq_normFn (h.imp_left And.left), normFn]
  rcases h with ⟨-, h⟩ | h
  · simp [h]
  · exact if_neg fun hc => hc.2 h

/-- In the determinate reading both variants apply the one Reducer of the configuration, and so they do on RedDom. -/
theorem redLane_eq_redFn {c : Config} {v : Variant} {x : Lane32}
    (h : c.domainReading = .determinate ∨ RedDom c.redBound x) : redLane c v x = redFn c x := by
  unfold redLane
  rcases h with h | h
  · simp [h]
  · exact if_neg fun hc => hc.2 h

/-- The step list runs wherever the configuration follows the datapath. -/
theorem redLane_eq_datapath {c : Config} {v : Variant} {x : Lane32} (hm : c.reducerModel = .datapath)
    (h : c.domainReading = .determinate ∨ RedDom c.redBound x) : redLane c v x = redDatapath c x := by
  rw [redLane_eq_redFn h]
  simp [redFn, hm]

/-- On its domain the CONTRACT Reducer is the residue moved by the free choice (R94). -/
theorem redLane_eq_contract {c : Config} {v : Variant} {x : Lane32} (hm : c.reducerModel = .contract)
    (h : RedDom c.redBound x) : redLane c v x = redContract x := by
  rw [redLane_eq_redFn (Or.inr h)]
  simp only [redFn, hm]
  exact if_pos h

/-- A result lane of a branch is the narrowed lane wherever the reading is determinate or the pair is in its domain. -/
theorem branchLane_eq {c : Config} {v : Variant} {b : Branch} {x0 x1 w0 w1 y : Lane16}
    (h : c.domainReading = .determinate ∨ PairDom x0 x1 w0 w1) : branchLane c v b x0 x1 w0 w1 y = y := by
  unfold branchLane
  rcases h with h | h
  · simp [h]
  · exact if_neg fun hc => hc.2 h

/-- The multiply-accumulate lane where the overflow wraps (R64). -/
theorem maddLane_eq_wrap {c : Config} (x0 x1 w0 w1 : Lane16) (h : c.maddOverflow = .wrap) :
    maddLane c x0 x1 w0 w1 = wrap32 (x0.toInt * w0.toInt + x1.toInt * w1.toInt) := by simp [maddLane, h]

/-- In the determinate reading BFLY is the pack of R106 over the two branches. -/
theorem bfly_eq_pack {m n : Nat} (hm : m = 2 * n) (h4 : n % 4 = 0) (c : Config) (v : Variant) (x w1 w2 : V16 m)
    (h : c.domainReading = .determinate) :
    bfly hm h4 c v x w1 w2
      = pack hm h4 (c.packOrder v) (c.packMode v) (branchNorm hm c v x w1) (branchNorm hm c v x w2) := by
  have hb : ∀ b w, branchOut hm c v b x w = mapLanes (narrowLane (c.packMode v)) (branchNorm hm c v x w) := by
    intro b w
    ext i hi : 1
    simp only [branchOut_getElem, mapLanes_getElem, branchLane_eq (Or.inl h)]
  simp only [bfly, pack, hb]

end Sys2Proof.Machine
end

