-- ==== Sys2Proof/Laws/Encoding.lean ====
section
/-!
SUPPORT. The decoder on the selects the encoder writes.
-/

namespace Sys2Proof

@[simp] theorem decodeFn_encodeSelect (v : Variant) (f : Fn) : decodeFn (encodeSelect v f) = some f := by
  cases v <;> cases f <;> decide

@[simp] theorem decodeVariant_encodeSelect (v : Variant) (f : Fn) : decodeVariant (encodeSelect v f) = v := by
  cases v <;> cases f <;> decide

@[simp] theorem selectLegal_encodeSelect (v : Variant) (f : Fn) (d a b : VarNo) :
    (⟨encodeSelect v f, d, a, b⟩ : Line).selectLegal = true := by
  cases v <;> cases f <;> decide +revert

/-- A line that decodes has a legal select, and names the function of its operation. -/
theorem decode_ok {l : Line} {i : Instr} (h : decode l = .ok i) :
    decodeFn l.opsel = some i.fn ∧ i = assemble (decodeVariant l.opsel) i.fn l := by
  unfold decode at h
  split at h
  · rename_i f hf
    obtain rfl : assemble (decodeVariant l.opsel) f l = i := by simpa using h
    have : (assemble (decodeVariant l.opsel) f l).fn = f := by
      cases decodeVariant l.opsel <;> cases f <;> rfl
    rw [this]
    exact ⟨hf, rfl⟩
  · cases h

end Sys2Proof
end

