-- ==== Sys2Proof/Laws/State.lean ====
section
/-!
SUPPORT. One lemma per field per update of the state, and what reading a variable gives after a binding.
-/

namespace Sys2Proof.Machine

open Sys2Proof

@[simp] theorem State.bindA_cfg (s : State) (k : VarNo) (v : V16 16) : (s.bindA k v).cfg = s.cfg := rfl
@[simp] theorem State.bindA_a (s : State) (k : VarNo) (v : V16 16) : (s.bindA k v).a = s.a.set k.val (some v) k.isLt := rfl
@[simp] theorem State.bindA_r (s : State) (k : VarNo) (v : V16 16) : (s.bindA k v).r = s.r := rfl
@[simp] theorem State.bindA_wa (s : State) (k : VarNo) (v : V16 16) : (s.bindA k v).wa = s.wa := rfl
@[simp] theorem State.bindA_wr (s : State) (k : VarNo) (v : V16 16) : (s.bindA k v).wr = s.wr := rfl
@[simp] theorem State.bindA_program (s : State) (k : VarNo) (v : V16 16) : (s.bindA k v).program = s.program := rfl
@[simp] theorem State.bindA_pos (s : State) (k : VarNo) (v : V16 16) : (s.bindA k v).pos = s.pos := rfl

@[simp] theorem State.bindR_cfg (s : State) (k : VarNo) (v : V32 8) : (s.bindR k v).cfg = s.cfg := rfl
@[simp] theorem State.bindR_a (s : State) (k : VarNo) (v : V32 8) : (s.bindR k v).a = s.a := rfl
@[simp] theorem State.bindR_r (s : State) (k : VarNo) (v : V32 8) : (s.bindR k v).r = s.r.set k.val (some v) k.isLt := rfl
@[simp] theorem State.bindR_wa (s : State) (k : VarNo) (v : V32 8) : (s.bindR k v).wa = s.wa := rfl
@[simp] theorem State.bindR_wr (s : State) (k : VarNo) (v : V32 8) : (s.bindR k v).wr = s.wr := rfl
@[simp] theorem State.bindR_program (s : State) (k : VarNo) (v : V32 8) : (s.bindR k v).program = s.program := rfl
@[simp] theorem State.bindR_pos (s : State) (k : VarNo) (v : V32 8) : (s.bindR k v).pos = s.pos := rfl

@[simp] theorem State.bindWideA_cfg (s : State) (k : VarNo) (v : V16 32) : (s.bindWideA k v).cfg = s.cfg := rfl
@[simp] theorem State.bindWideA_a (s : State) (k : VarNo) (v : V16 32) : (s.bindWideA k v).a = s.a := rfl
@[simp] theorem State.bindWideA_r (s : State) (k : VarNo) (v : V16 32) : (s.bindWideA k v).r = s.r := rfl
@[simp] theorem State.bindWideA_wa (s : State) (k : VarNo) (v : V16 32) : (s.bindWideA k v).wa = s.wa.set k.val (some v) k.isLt := rfl
@[simp] theorem State.bindWideA_wr (s : State) (k : VarNo) (v : V16 32) : (s.bindWideA k v).wr = s.wr := rfl
@[simp] theorem State.bindWideA_program (s : State) (k : VarNo) (v : V16 32) : (s.bindWideA k v).program = s.program := rfl
@[simp] theorem State.bindWideA_pos (s : State) (k : VarNo) (v : V16 32) : (s.bindWideA k v).pos = s.pos := rfl

@[simp] theorem State.bindWideR_cfg (s : State) (k : VarNo) (v : V32 16) : (s.bindWideR k v).cfg = s.cfg := rfl
@[simp] theorem State.bindWideR_a (s : State) (k : VarNo) (v : V32 16) : (s.bindWideR k v).a = s.a := rfl
@[simp] theorem State.bindWideR_r (s : State) (k : VarNo) (v : V32 16) : (s.bindWideR k v).r = s.r := rfl
@[simp] theorem State.bindWideR_wa (s : State) (k : VarNo) (v : V32 16) : (s.bindWideR k v).wa = s.wa := rfl
@[simp] theorem State.bindWideR_wr (s : State) (k : VarNo) (v : V32 16) : (s.bindWideR k v).wr = s.wr.set k.val (some v) k.isLt := rfl
@[simp] theorem State.bindWideR_program (s : State) (k : VarNo) (v : V32 16) : (s.bindWideR k v).program = s.program := rfl
@[simp] theorem State.bindWideR_pos (s : State) (k : VarNo) (v : V32 16) : (s.bindWideR k v).pos = s.pos := rfl

@[simp] theorem State.advance_cfg (s : State) : s.advance.cfg = s.cfg := rfl
@[simp] theorem State.advance_a (s : State) : s.advance.a = s.a := rfl
@[simp] theorem State.advance_r (s : State) : s.advance.r = s.r := rfl
@[simp] theorem State.advance_wa (s : State) : s.advance.wa = s.wa := rfl
@[simp] theorem State.advance_wr (s : State) : s.advance.wr = s.wr := rfl
@[simp] theorem State.advance_program (s : State) : s.advance.program = s.program := rfl
@[simp] theorem State.advance_pos (s : State) : s.advance.pos = s.pos + 1 := rfl

@[simp] theorem State.loadProgram_cfg (s : State) (p : List Line) : (s.loadProgram p).cfg = s.cfg := rfl
@[simp] theorem State.loadProgram_a (s : State) (p : List Line) : (s.loadProgram p).a = s.a := rfl
@[simp] theorem State.loadProgram_r (s : State) (p : List Line) : (s.loadProgram p).r = s.r := rfl
@[simp] theorem State.loadProgram_wa (s : State) (p : List Line) : (s.loadProgram p).wa = s.wa := rfl
@[simp] theorem State.loadProgram_wr (s : State) (p : List Line) : (s.loadProgram p).wr = s.wr := rfl
@[simp] theorem State.loadProgram_program (s : State) (p : List Line) : (s.loadProgram p).program = p := rfl
@[simp] theorem State.loadProgram_pos (s : State) (p : List Line) : (s.loadProgram p).pos = 0 := rfl

/-- Reading back a binding of the same file: the bound variable gives the value, another what it held. -/
@[simp] theorem State.getA_bindA (s : State) (k j : VarNo) (v : V16 16) :
    (s.bindA k v).getA j = if k = j then some v else s.getA j := by
  simp [State.getA, State.bindA, Vector.getElem_set, Fin.ext_iff]
@[simp] theorem State.getA_bindR (s : State) (k j : VarNo) (v : V32 8) : (s.bindR k v).getA j = s.getA j := rfl
@[simp] theorem State.getA_bindWideA (s : State) (k j : VarNo) (v : V16 32) : (s.bindWideA k v).getA j = s.getA j := rfl
@[simp] theorem State.getA_bindWideR (s : State) (k j : VarNo) (v : V32 16) : (s.bindWideR k v).getA j = s.getA j := rfl
@[simp] theorem State.getA_advance (s : State) (j : VarNo) : s.advance.getA j = s.getA j := rfl
@[simp] theorem State.getA_loadProgram (s : State) (p : List Line) (j : VarNo) : (s.loadProgram p).getA j = s.getA j := rfl
@[simp] theorem State.getA_reset (j : VarNo) : State.reset.getA j = none := by simp [State.getA, State.reset]

@[simp] theorem State.getR_bindA (s : State) (k j : VarNo) (v : V16 16) : (s.bindA k v).getR j = s.getR j := rfl
/-- Reading back a binding of the same file: the bound variable gives the value, another what it held. -/
@[simp] theorem State.getR_bindR (s : State) (k j : VarNo) (v : V32 8) :
    (s.bindR k v).getR j = if k = j then some v else s.getR j := by
  simp [State.getR, State.bindR, Vector.getElem_set, Fin.ext_iff]
@[simp] theorem State.getR_bindWideA (s : State) (k j : VarNo) (v : V16 32) : (s.bindWideA k v).getR j = s.getR j := rfl
@[simp] theorem State.getR_bindWideR (s : State) (k j : VarNo) (v : V32 16) : (s.bindWideR k v).getR j = s.getR j := rfl
@[simp] theorem State.getR_advance (s : State) (j : VarNo) : s.advance.getR j = s.getR j := rfl
@[simp] theorem State.getR_loadProgram (s : State) (p : List Line) (j : VarNo) : (s.loadProgram p).getR j = s.getR j := rfl
@[simp] theorem State.getR_reset (j : VarNo) : State.reset.getR j = none := by simp [State.getR, State.reset]

@[simp] theorem State.getWideA_bindA (s : State) (k j : VarNo) (v : V16 16) : (s.bindA k v).getWideA j = s.getWideA j := rfl
@[simp] theorem State.getWideA_bindR (s : State) (k j : VarNo) (v : V32 8) : (s.bindR k v).getWideA j = s.getWideA j := rfl
/-- Reading back a binding of the same file: the bound variable gives the value, another what it held. -/
@[simp] theorem State.getWideA_bindWideA (s : State) (k j : VarNo) (v : V16 32) :
    (s.bindWideA k v).getWideA j = if k = j then some v else s.getWideA j := by
  simp [State.getWideA, State.bindWideA, Vector.getElem_set, Fin.ext_iff]
@[simp] theorem State.getWideA_bindWideR (s : State) (k j : VarNo) (v : V32 16) : (s.bindWideR k v).getWideA j = s.getWideA j := rfl
@[simp] theorem State.getWideA_advance (s : State) (j : VarNo) : s.advance.getWideA j = s.getWideA j := rfl
@[simp] theorem State.getWideA_loadProgram (s : State) (p : List Line) (j : VarNo) : (s.loadProgram p).getWideA j = s.getWideA j := rfl
@[simp] theorem State.getWideA_reset (j : VarNo) : State.reset.getWideA j = none := by simp [State.getWideA, State.reset]

@[simp] theorem State.getWideR_bindA (s : State) (k j : VarNo) (v : V16 16) : (s.bindA k v).getWideR j = s.getWideR j := rfl
@[simp] theorem State.getWideR_bindR (s : State) (k j : VarNo) (v : V32 8) : (s.bindR k v).getWideR j = s.getWideR j := rfl
@[simp] theorem State.getWideR_bindWideA (s : State) (k j : VarNo) (v : V16 32) : (s.bindWideA k v).getWideR j = s.getWideR j := rfl
/-- Reading back a binding of the same file: the bound variable gives the value, another what it held. -/
@[simp] theorem State.getWideR_bindWideR (s : State) (k j : VarNo) (v : V32 16) :
    (s.bindWideR k v).getWideR j = if k = j then some v else s.getWideR j := by
  simp [State.getWideR, State.bindWideR, Vector.getElem_set, Fin.ext_iff]
@[simp] theorem State.getWideR_advance (s : State) (j : VarNo) : s.advance.getWideR j = s.getWideR j := rfl
@[simp] theorem State.getWideR_loadProgram (s : State) (p : List Line) (j : VarNo) : (s.loadProgram p).getWideR j = s.getWideR j := rfl
@[simp] theorem State.getWideR_reset (j : VarNo) : State.reset.getWideR j = none := by simp [State.getWideR, State.reset]

@[simp] theorem State.nextLine_loadProgram_cons (s : State) (l : Line) (p : List Line) :
    (s.loadProgram (l :: p)).nextLine = some l := rfl

/-- A line is requested only from inside the list (R24). -/
theorem State.pos_lt_of_nextLine {s : State} {l : Line} (h : s.nextLine = some l) : s.pos < s.program.length := by
  simp only [State.nextLine] at h
  exact (List.getElem?_eq_some_iff.mp h).1

@[simp] theorem State.reset_cfg : State.reset.cfg = Config.hardware := rfl
@[simp] theorem State.reset_program : State.reset.program = [] := rfl
@[simp] theorem State.reset_pos : State.reset.pos = 0 := rfl

end Sys2Proof.Machine
end

