-- ==== Sys2Proof/Laws/Operands.lean ====
section
/-!
SUPPORT. What the operand forms and the shared operations can do, said once.
-/

namespace Sys2Proof.Machine

open Sys2Proof

@[simp] theorem withOperand_some {α : Type} (v : α) (k : α → Host.Outcome State Fault Refusal) :
    withOperand (some v) k = k v := rfl

@[simp] theorem withOperand_none {α : Type} (k : α → Host.Outcome State Fault Refusal) :
    withOperand none k = .refused .operandUnset := rfl

@[simp] theorem unary_some {α : Type} (v : α) (f : α → α) (b : α → State) : unary (some v) f b = .next (b (f v)) := rfl

@[simp] theorem unary_none {α : Type} (f : α → α) (b : α → State) : unary none f b = .refused .operandUnset := rfl

@[simp] theorem ternary_some {α : Type} (x w1 w2 : α) (f : α → α → α → α) (b : α → State) :
    ternary (some x) (some w1) (some w2) f b = .next (b (f x w1 w2)) := rfl

/-- Everything a one-operand form can answer: the operand holds a value and the result is bound. -/
theorem unary_next {α : Type} {x : Option α} {f : α → α} {b : α → State} {t : State} (h : unary x f b = .next t) :
    ∃ v, x = some v ∧ t = b (f v) := by
  cases x with
  | none => simp at h
  | some v => exact ⟨v, rfl, by simpa using h.symm⟩

/-- Everything the three-operand form can answer: all three operands hold values and the result is bound. -/
theorem ternary_next {α : Type} {x w1 w2 : Option α} {f : α → α → α → α} {b : α → State} {t : State}
    (h : ternary x w1 w2 f b = .next t) :
    ∃ vx v1 v2, x = some vx ∧ w1 = some v1 ∧ w2 = some v2 ∧ t = b (f vx v1 v2) := by
  cases x <;> cases w1 <;> cases w2 <;> simp [ternary] at h
  exact ⟨_, _, _, rfl, rfl, rfl, h.symm⟩

@[simp] theorem afterExec_next (t : State) : afterExec (.next t) = .next t.advance := rfl

@[simp] theorem afterExec_refused (r : Refusal) : afterExec (.refused r) = .refused r := rfl

/-- What follows a transaction answers a next state only after a response, one line further on. -/
theorem afterExec_eq_next {o : Host.Outcome State Fault Refusal} {t : State} (h : afterExec o = .next t) :
    ∃ u, o = .next u ∧ t = u.advance := by
  cases o with
  | next u => exact ⟨u, rfl, by simpa using h.symm⟩
  | fault f => cases f
  | refused r => simp at h

end Sys2Proof.Machine
end

