-- ==== Sys2Proof/Laws/Exec.lean ====
section
/-!
SUPPORT. Each meaning as an equation over its operands, what exec can answer, and what step can answer, said once.
-/

namespace Sys2Proof.Machine

open Sys2Proof

theorem exec_normN {s : State} {rd rs : VarNo} {v : V32 8} (h : s.getR rs = some v) :
    exec (.normN rd rs) s = .next (s.bindR rd (normVec s.cfg .narrow v)) := by simp [exec, execNormN, h]

theorem exec_redN {s : State} {rd rs : VarNo} {v : V32 8} (h : s.getR rs = some v) :
    exec (.redN rd rs) s = .next (s.bindR rd (redVec s.cfg .narrow v)) := by simp [exec, execRedN, h]

theorem exec_normW {s : State} {rd rs : VarNo} {v : V32 16} (h : s.getWideR rs = some v) :
    exec (.normW rd rs) s = .next (s.bindWideR rd (normVec s.cfg .wide v)) := by simp [exec, execNormW, h]

theorem exec_redW {s : State} {rd rs : VarNo} {v : V32 16} (h : s.getWideR rs = some v) :
    exec (.redW rd rs) s = .next (s.bindWideR rd (redVec s.cfg .wide v)) := by simp [exec, execRedW, h]

theorem exec_bflyN {s : State} {ax aw1 aw2 : VarNo} {x w1 w2 : V16 16} (hx : s.getA ax = some x)
    (h1 : s.getA aw1 = some w1) (h2 : s.getA aw2 = some w2) :
    exec (.bflyN ax aw1 aw2) s = .next (s.bindA ax (bflyN s.cfg x w1 w2)) := by simp [exec, execBflyN, hx, h1, h2]

theorem exec_bflyW {s : State} {ax aw1 aw2 : VarNo} {x w1 w2 : V16 32} (hx : s.getWideA ax = some x)
    (h1 : s.getWideA aw1 = some w1) (h2 : s.getWideA aw2 = some w2) :
    exec (.bflyW ax aw1 aw2) s = .next (s.bindWideA ax (bflyW s.cfg x w1 w2)) := by simp [exec, execBflyW, hx, h1, h2]

/-- The variable an operation binds, and the value it binds it to. -/
inductive Binding (s : State) : Instr → State → Prop where
  | normN {rd rs v} (h : s.getR rs = some v) : Binding s (.normN rd rs) (s.bindR rd (normVec s.cfg .narrow v))
  | redN {rd rs v} (h : s.getR rs = some v) : Binding s (.redN rd rs) (s.bindR rd (redVec s.cfg .narrow v))
  | normW {rd rs v} (h : s.getWideR rs = some v) : Binding s (.normW rd rs) (s.bindWideR rd (normVec s.cfg .wide v))
  | redW {rd rs v} (h : s.getWideR rs = some v) : Binding s (.redW rd rs) (s.bindWideR rd (redVec s.cfg .wide v))
  | bflyN {ax aw1 aw2 x w1 w2} (hx : s.getA ax = some x) (h1 : s.getA aw1 = some w1) (h2 : s.getA aw2 = some w2) :
      Binding s (.bflyN ax aw1 aw2) (s.bindA ax (bflyN s.cfg x w1 w2))
  | bflyW {ax aw1 aw2 x w1 w2} (hx : s.getWideA ax = some x) (h1 : s.getWideA aw1 = some w1)
      (h2 : s.getWideA aw2 = some w2) : Binding s (.bflyW ax aw1 aw2) (s.bindWideA ax (bflyW s.cfg x w1 w2))

/-- Everything exec can answer as a next state. -/
theorem exec_next {i : Instr} {s t : State} (h : exec i s = .next t) : Binding s i t := by
  cases i with
  | normN rd rs => obtain ⟨v, hv, rfl⟩ := unary_next h; exact .normN hv
  | redN rd rs => obtain ⟨v, hv, rfl⟩ := unary_next h; exact .redN hv
  | bflyN ax aw1 aw2 => obtain ⟨x, w1, w2, hx, h1, h2, rfl⟩ := ternary_next h; exact .bflyN hx h1 h2
  | normW rd rs => obtain ⟨v, hv, rfl⟩ := unary_next h; exact .normW hv
  | redW rd rs => obtain ⟨v, hv, rfl⟩ := unary_next h; exact .redW hv
  | bflyW ax aw1 aw2 => obtain ⟨x, w1, w2, hx, h1, h2, rfl⟩ := ternary_next h; exact .bflyW hx h1 h2

/-- Everything step can answer as a next state: the next line decodes, its operation answers, and the caller goes on. -/
theorem step_next {s t : State} (h : step s = .next t) :
    ∃ l i u, s.nextLine = some l ∧ decode l = .ok i ∧ exec i s = .next u ∧ t = u.advance := by
  unfold step at h
  split at h
  · cases h
  · rename_i l hl
    split at h
    · cases h
    · rename_i i hi
      obtain ⟨u, hu, ht⟩ := afterExec_eq_next h
      exact ⟨l, i, u, hl, hi, hu, ht⟩

end Sys2Proof.Machine
end

