-- ==== Sys2Proof/Laws/PerInstr.lean ====
section
/-!
SUPPORT. The per-instruction family: an operation written as a line decodes to itself.
-/

namespace Sys2Proof.Laws.LineRoundTrip

open Sys2Proof

/-- The line of an operation is well formed and decodes to the operation, with every variable number kept. -/
def Statement (i : Instr) : Prop := (encode i).wellFormed = true ∧ decode (encode i) = .ok i

/-- A line made of an operation's own select decodes to what the operation's variant and function assemble. -/
theorem statement_of {i : Instr} (h : assemble i.variant i.fn (encode i) = i) : Statement i := by
  have hs : (encode i).opsel = encodeSelect i.variant i.fn := by cases i <;> rfl
  constructor
  · have := selectLegal_encodeSelect i.variant i.fn (encode i).dst (encode i).src1 (encode i).src2
    simpa [Line.wellFormed, ← hs] using this
  · simp only [decode, hs, decodeFn_encodeSelect, decodeVariant_encodeSelect, h]

theorem normN (rd rs : VarNo) : Statement (.normN rd rs) := statement_of rfl
theorem redN (rd rs : VarNo) : Statement (.redN rd rs) := statement_of rfl
theorem bflyN (ax aw1 aw2 : VarNo) : Statement (.bflyN ax aw1 aw2) := statement_of rfl
theorem normW (rd rs : VarNo) : Statement (.normW rd rs) := statement_of rfl
theorem redW (rd rs : VarNo) : Statement (.redW rd rs) := statement_of rfl
theorem bflyW (ax aw1 aw2 : VarNo) : Statement (.bflyW ax aw1 aw2) := statement_of rfl

end Sys2Proof.Laws.LineRoundTrip
end

