-- ==== Sys2Proof/Laws/Reference.lean ====
section
/-!
SUPPORT. What the reference functions give in a lane.
-/

namespace Sys2Proof.Machine

open Sys2Proof

@[simp] theorem joinHalves_getElem (a b : V16 16) (i : Nat) (h : i < 32) :
    (joinHalves a b)[i] = if hi : i < 16 then a[i]'hi else b[i - 16]'(by omega) := by simp [joinHalves]

@[simp] theorem joinWords_getElem (a b : V32 8) (i : Nat) (h : i < 16) :
    (joinWords a b)[i] = if hi : i < 8 then a[i]'hi else b[i - 8]'(by omega) := by simp [joinWords]

@[simp] theorem refBranch_getElem {m n : Nat} (hm : m = 2 * n) (x w : V16 m) (i : Nat) (h : i < n) :
    (refBranch hm x w)[i] = refLane (x[2 * i]'(by omega)) (x[2 * i + 1]'(by omega)) (w[2 * i]'(by omega))
      (w[2 * i + 1]'(by omega)) := by simp [refBranch]

/-- A lane of the scalar reference is canonical, whatever the operands. -/
theorem refLane_canonical (x0 x1 w0 w1 : Lane16) : Canon16 (refLane x0 x1 w0 w1) := by
  have h0 := Int.emod_nonneg (x0.toInt * w0.toInt + x1.toInt * w1.toInt) (show (3329 : Int) ≠ 0 by norm_num)
  have h1 := Int.emod_lt_of_pos (x0.toInt * w0.toInt + x1.toInt * w1.toInt) (show (0 : Int) < 3329 by norm_num)
  unfold Canon16 CanonInt refLane
  rw [wrap16_toInt_of_range] <;> omega

end Sys2Proof.Machine
end

