-- ==== Sys2Proof/Tests/Slice0.lean ====
section
/-!
SUPPORT. Checks of the model against values written out in the spec (95_test_vectors.md and the worked examples of the
section files), and the smoke test of WellFormed. Every expected value is the spec's, or hand-worked from its encoding
table; none is the model's own answer.
-/

namespace Sys2Proof.Tests

open Sys2Proof Sys2Proof.Machine

/-! ### Lines, decoding, encoding -/

/-- R47: the two reserved selects are the ill-formed lines. -/
theorem test_wellFormed_refuses_011 : (⟨0b011#3, 0, 1, 2⟩ : Line).wellFormed = false := by decide
theorem test_wellFormed_refuses_111 : (⟨0b111#3, 0, 1, 2⟩ : Line).wellFormed = false := by decide
theorem test_wellFormed_accepts_110 : (⟨0b110#3, 0, 1, 2⟩ : Line).wellFormed = true := by decide

/-- R44, opcode_table.json: `000`, `001`, `010` with V = 0, `100`, `101`, `110` with V = 1, over the variables 3, 5, 7. -/
theorem test_decode_000 : decode ⟨0b000#3, 3, 5, 7⟩ = .ok (.normN 3 5) := by rfl
theorem test_decode_001 : decode ⟨0b001#3, 3, 5, 7⟩ = .ok (.redN 3 5) := by rfl
theorem test_decode_010 : decode ⟨0b010#3, 3, 5, 7⟩ = .ok (.bflyN 3 5 7) := by rfl
theorem test_decode_100 : decode ⟨0b100#3, 3, 5, 7⟩ = .ok (.normW 3 5) := by rfl
theorem test_decode_101 : decode ⟨0b101#3, 3, 5, 7⟩ = .ok (.redW 3 5) := by rfl
theorem test_decode_110 : decode ⟨0b110#3, 3, 5, 7⟩ = .ok (.bflyW 3 5 7) := by rfl
theorem test_decode_011 : decode ⟨0b011#3, 3, 5, 7⟩ = .error .reservedSelect := by rfl
theorem test_decode_111 : decode ⟨0b111#3, 3, 5, 7⟩ = .error .reservedSelect := by rfl

/-- No select is covered by two rows of the table, and the uncovered ones are the reserved ones (R48). -/
theorem test_table_rows_disjoint :
    opcodeTable.Pairwise (fun p q => ∀ o : BitVec 3, (p.covers o && q.covers o) = false) := by decide
theorem test_table_covers_legal :
    ∀ o : BitVec 3, (opcodeTable.any fun row => row.covers o) = (⟨o, 0, 0, 0⟩ : Line).wellFormed := by decide

/-- R49: the text of a line. -/
theorem test_text_bflyN : (Instr.bflyN 0 1 2).text = "BFLY.N a0, a1, a2" := by decide
theorem test_text_normW : (Instr.normW 2 1).text = "NORM.W R2, R1" := by decide

/-! ### Lane primitives (V-PRIM-1 to V-PRIM-4) -/

theorem test_add32_wraps : addLane 2147483647#32 1#32 = 0x80000000#32 := by decide
theorem test_sub32_wraps : subLane 0x80000000#32 3329#32 = 0x7FFFF2FF#32 := by decide
theorem test_sra32_31 :
    sra32 #v[0x80000000#32, 0#32, 0x7FFFFFFF#32, 0xFFFFF2FE#32] 31 = #v[0xFFFFFFFF#32, 0#32, 0#32, 0xFFFFFFFF#32] := by
  decide
theorem test_and32 : and32 (splat 2 3329#32) #v[0xFFFFFFFF#32, 0#32] = #v[3329#32, 0#32] := by decide
theorem test_andnot32 : andnot32 #v[0xFFFFFFFF#32, 0#32] (splat 2 3329#32) = #v[0#32, 3329#32] := by decide
theorem test_mullo32_minus_one : mulloLane 0xFFFFFFFF#32 1290515#32 = 0xFFEC4EED#32 := by decide
theorem test_mullo32_17300 : mulloLane 17300#32 1290515#32 = 0x32BA57FC#32 := by decide
theorem test_mulhi32_unsigned : mulhiLane false 0xFFFFFFFF#32 3329#32 = 3328#32 := by decide
theorem test_mulhi32_signed : mulhiLane true 0xFFEC4EED#32 3329#32 = 0xFFFFFFFE#32 := by decide

/-- V-PRIM-2, the vector t of the RED.N example. -/
def redExampleT : V32 8 :=
  #v[0x00000000#32, 0x0013B113#32, 0x0011A813#32, 0x00255926#32, 0x00235026#32, 0x32BA57FC#32, 0xFFFDF700#32,
    0xCB160000#32]
theorem test_mulwide_even : mulwideEven (n := 4) (by decide) false redExampleT 3329#32
    = #v[0x0000000000000000#64, 0x00000000E59A9F13#64, 0x00000001CB353E26#64, 0x00000D00E588F700#64] := by decide
theorem test_mulwide_odd : mulwideOdd (n := 4) (by decide) false redExampleT 3329#32
    = #v[0x000000010011A813#64, 0x00000001E5AC4726#64, 0x00000293A93223FC#64, 0x00000A50E9160000#64] := by decide
theorem test_recombine_hi : recombineHi (L := 8) (by decide)
      #v[0x0000000000000000#64, 0x00000000E59A9F13#64, 0x00000001CB353E26#64, 0x00000D00E588F700#64]
      #v[0x000000010011A813#64, 0x00000001E5AC4726#64, 0x00000293A93223FC#64, 0x00000A50E9160000#64]
    = #v[0#32, 1#32, 0#32, 1#32, 1#32, 659#32, 3328#32, 2640#32] := by decide

theorem test_madd16_signs : madd16 (n := 2) (by decide) Config.hardware #v[-1#16, 2#16, 0x8000#16, 1#16]
    #v[3#16, 4#16, 1#16, 0#16] = #v[5#32, -32768#32] := by decide
theorem test_madd16_extremes : madd16 (n := 3) (by decide) Config.hardware
      #v[32767#16, 32767#16, 0x8000#16, 0x8000#16, 0x8000#16, 0x8000#16]
      #v[32767#16, 32767#16, 32767#16, 32767#16, 0x8000#16, 0x8000#16]
    = #v[2147352578#32, -2147418112#32, 0x80000000#32] := by decide

/-- V-PRIM-4, the table of narrowings, column by column. -/
def narrowInputs : V32 12 :=
  #v[3328#32, -1#32, 32767#32, 32768#32, -32768#32, -32769#32, 65535#32, 65536#32, -2173182#32, 13359279#32,
    2147483647#32, 0x80000000#32]
theorem test_narrow_trunc : mapLanes (narrowLane .trunc) narrowInputs
    = #v[3328#16, -1#16, 32767#16, -32768#16, -32768#16, 32767#16, -1#16, 0#16, -10494#16, -10065#16, -1#16, 0#16] := by
  decide
theorem test_narrow_ssat : mapLanes (narrowLane .ssat) narrowInputs
    = #v[3328#16, -1#16, 32767#16, 32767#16, -32768#16, -32768#16, 32767#16, 32767#16, -32768#16, 32767#16, 32767#16,
      -32768#16] := by decide
theorem test_narrow_usat : mapLanes (narrowLane .usat) narrowInputs
    = #v[3328#16, 0#16, 32767#16, 0x8000#16, 0#16, 0#16, 0xFFFF#16, 0xFFFF#16, 0#16, 0xFFFF#16, 0xFFFF#16, 0#16] := by
  decide

/-- V-PRIM-4, the pack orders. -/
def packN1 : V32 8 := #v[0#32, 1#32, 0#32, 1#32, 3328#32, 0#32, 1#32, 2#32]
def packN2 : V32 8 := #v[2#32, 1#32, 1#32, 0#32, 2#32, 1#32, 0#32, 3328#32]
theorem test_pack_interleave : pack (m := 16) (by decide) (by decide) .elementInterleave .trunc packN1 packN2
    = #v[0#16, 2#16, 1#16, 1#16, 0#16, 1#16, 1#16, 0#16, 3328#16, 2#16, 0#16, 1#16, 1#16, 0#16, 2#16, 3328#16] := by
  decide
theorem test_pack_concat : pack (m := 16) (by decide) (by decide) .concat .trunc packN1 packN2
    = #v[0#16, 1#16, 0#16, 1#16, 3328#16, 0#16, 1#16, 2#16, 2#16, 1#16, 1#16, 0#16, 2#16, 1#16, 0#16, 3328#16] := by
  decide
theorem test_pack_block4 : pack (m := 16) (by decide) (by decide) .block4 .ssat packN1 packN2
    = #v[0#16, 1#16, 0#16, 1#16, 2#16, 1#16, 1#16, 0#16, 3328#16, 0#16, 1#16, 2#16, 2#16, 1#16, 0#16, 3328#16] := by
  decide

/-! ### Layout (V-SRC-1) -/

/-- X of the source's concrete scenario. -/
def scenarioX : V16 16 :=
  #v[0#16, 100#16, 200#16, 300#16, 400#16, 500#16, 600#16, 700#16, 800#16, 900#16, 1000#16, 1100#16, 1200#16, 1300#16,
    1400#16, 1500#16]
theorem test_flat_scenario : flat scenarioX
    = 0x05DC0578051404B0044C03E80384032002BC025801F40190012C00C800640000#256 := by decide
theorem test_bytes_scenario : (byteImage (flat scenarioX)).take 12
    = [0x00#8, 0x00#8, 0x64#8, 0x00#8, 0xC8#8, 0x00#8, 0x2C#8, 0x01#8, 0x90#8, 0x01#8, 0xF4#8, 0x01#8] := by decide
theorem test_flat_words : flat (#v[17300#32, 86500#32, 155700#32, 224900#32, 294100#32, 363300#32, 432500#32, 501700#32])
    = 0x0007A7C40006997400058B2400047CD400036E8400026034000151E400004394#256 := by decide

/-! ### One transaction -/

/-- A state of the hardware's configuration with two narrow word variables held. -/
def wordsAt (v : V32 8) : State := State.reset.bindR 1 v

/-- The value bound after one operation, when there is a next state. -/
def resultR (k : VarNo) : Host.Outcome State Fault Refusal → Option (V32 8)
  | .next s => s.getR k
  | _ => none
def resultA (k : VarNo) : Host.Outcome State Fault Refusal → Option (V16 16)
  | .next s => s.getA k
  | _ => none
def resultWideR (k : VarNo) : Host.Outcome State Fault Refusal → Option (V32 16)
  | .next s => s.getWideR k
  | _ => none
def resultWideA (k : VarNo) : Host.Outcome State Fault Refusal → Option (V16 32)
  | .next s => s.getWideA k
  | _ => none

/-- V-NORM-2, R80. -/
theorem test_normN : resultR 0 (exec (.normN 0 1)
      (wordsAt #v[-3329#32, -1#32, 0#32, 3328#32, 3329#32, 6657#32, 6658#32, -3330#32]))
    = some #v[0#32, 3328#32, 0#32, 3328#32, 0#32, 3328#32, 3329#32, -1#32] := by decide

/-- V-NORM-1, the wrapping rows. -/
theorem test_norm_wrapping_rows :
    mapLanes normDatapath #v[0x80000D01#32, 0x80000D00#32, 0x80000000#32, 0x7FFFFFFF#32]
    = #v[-2147476990#32, 2147483647#32, 2147480319#32, 2147480318#32] := by decide

/-- V-NORM-2, R81. -/
theorem test_normW : resultWideR 2 (exec (.normW 2 2) (State.reset.bindWideR 2
      #v[-3329#32, -1#32, 0#32, 3328#32, 3329#32, 6657#32, 6658#32, -3330#32, 1#32, 2#32, 3#32, 4#32, -4#32, -3#32,
        -2#32, -1#32]))
    = some #v[0#32, 3328#32, 0#32, 3328#32, 0#32, 3328#32, 3329#32, -1#32, 1#32, 2#32, 3#32, 4#32, 3325#32, 3326#32,
        3327#32, 3328#32] := by decide

/-- R96, V-RED-4. -/
theorem test_redN : resultR 0 (exec (.redN 0 1)
      (wordsAt #v[0#32, 1#32, 3329#32, 3330#32, 6658#32, 17300#32, 3328#32, 22151168#32]))
    = some #v[0#32, -3328#32, 3329#32, 1#32, 3329#32, -2176511#32, -11075584#32, 13362608#32] := by decide

/-- V-RED-1, the extreme rows. -/
theorem test_red_extreme_rows :
    mapLanes (redDatapath Config.hardware)
      #v[-1#32, -3329#32, -22164482#32, -2136404736#32, 2147483647#32, 0x80000000#32, 11082584#32]
    = #v[-11075584#32, -11082241#32, -24448176#32, -2140799016#32, 2141947520#32, 2141944192#32, 3672#32] := by decide

/-- V-RED-2, M = M_FORMULA. -/
theorem test_red_formula :
    mapLanes (redDatapath { Config.hardware with m := Config.mFormula })
      #v[1#32, 3328#32, 17300#32, 57900#32, 22151168#32, -3329#32, 0x80000000#32]
    = #v[1#32, -11072255#32, -2159866#32, -4289774#32, 11085572#32, -3329#32, 2141944192#32] := by decide

/-- V-RED-3, WIDEN_SIGNED. -/
theorem test_red_signed :
    mapLanes (redDatapath { Config.hardware with widenSigned := true })
      #v[0#32, 1#32, -1#32, 3328#32, 3329#32, -3329#32, 11075584#32, 22151168#32, 0x80000000#32]
    = #v[0#32, -3328#32, 6657#32, 6657#32, 3329#32, 0#32, 12224089#32, 24444849#32, -2141940863#32] := by decide

/-- R97, V-RED-4. -/
theorem test_redW : resultWideR 0 (exec (.redW 0 1) (State.reset.bindWideR 1
      #v[0#32, 1#32, 3329#32, 3330#32, 6658#32, 17300#32, 3328#32, 22151168#32, 2#32, 6#32, -1#32, -3328#32, -3329#32,
        57900#32, 11075584#32, 22164482#32]))
    = some #v[0#32, -3328#32, 3329#32, 1#32, 3329#32, -2176511#32, -11075584#32, 13362608#32, -6656#32, -19968#32,
        -11075584#32, -3328#32, -11082241#32, -4343038#32, 1141848#32, 13369264#32] := by decide

/-- A state with three narrow coefficient variables held. -/
def halvesAt (x w1 w2 : V16 16) : State := ((State.reset.bindA 0 x).bindA 1 w1).bindA 2 w2

/-- V-SRC-1, R118: the source's scenario in variant N (signed saturation). -/
theorem test_bflyN_scenario : resultA 0 (exec (.bflyN 0 1 2) (halvesAt scenarioX (splat 16 173#16) (splat 16 229#16)))
    = some #v[-32768#16, -32768#16, -32768#16, -32768#16, -32768#16, -32768#16, -32768#16, -32768#16, -32768#16,
        -32768#16, -32768#16, -32768#16, -32768#16, 32767#16, -32768#16, -32768#16] := by decide

/-- V-BF-1: X is also the first twiddle, and its old value is used (R108). -/
theorem test_bflyN_alias : resultA 0 (exec (.bflyN 0 0 2) (halvesAt
      #v[1#16, 2#16, 3#16, 4#16, 5#16, 6#16, 7#16, 8#16, 9#16, 10#16, 11#16, 12#16, 13#16, 14#16, 15#16, 16#16]
      (splat 16 0#16)
      #v[0#16, 1#16, 0#16, 1#16, 0#16, 1#16, 0#16, 1#16, 0#16, 1#16, 0#16, 1#16, 0#16, 1#16, 0#16, 1#16]))
    = some #v[-13311#16, -3327#16, -32768#16, -9983#16, -32768#16, -16639#16, -32768#16, -23295#16, -32768#16,
        -29951#16, -32768#16, -32768#16, -32768#16, -32768#16, -32768#16, -32768#16] := by decide

/-- X of V-BF-4: 100 times the lane number. -/
def scenarioWideX : V16 32 := Vector.ofFn fun i => BitVec.ofNat 16 (100 * i.val)

/-- A state with three wide coefficient variables held. -/
def wideHalvesAt (x w1 w2 : V16 32) : State := ((State.reset.bindWideA 0 x).bindWideA 1 w1).bindWideA 2 w2

/-- V-BF-4: the 32-lane extension of the scenario in variant W (truncation). -/
theorem test_bflyW_scenario :
    resultWideA 0 (exec (.bflyW 0 1 2) (wideHalvesAt scenarioWideX (splat 32 173#16) (splat 32 229#16)))
    = some #v[0xD702#16, 0x7701#16, 0xD803#16, 0x8705#16, 0x0006#16, 0x7007#16, 0x1B08#16, 0x730A#16, 0x360A#16,
        0x690D#16, 0x5E0D#16, 0x6C10#16, 0x5F0E#16, 0x5511#16, 0x7A10#16, 0x6516#16, 0xA213#16, 0x4E17#16, 0xBD15#16,
        0x511B#16, 0xD817#16, 0x611F#16, 0xE619#16, 0x4A21#16, 0x011B#16, 0x4D24#16, 0x1C1D#16, 0x4327#16, 0x4420#16,
        0x462A#16, 0x4520#16, 0x2F2C#16] := by decide

/-- V-BF-3: all lanes -32768 against -32768 and 32767, lanes alternating 6C7F and 8A81. -/
theorem test_bflyW_extreme :
    (resultWideA 3 (exec (.bflyW 3 4 5) (((State.reset.bindWideA 3 (splat 32 0x8000#16)).bindWideA 4
      (splat 32 0x8000#16)).bindWideA 5 (splat 32 0x7FFF#16)))).map (fun y => (y[0], y[1], y[30], y[31]))
    = some (0x6C7F#16, 0x8A81#16, 0x6C7F#16, 0x8A81#16) := by decide

/-- V-SRC-1: the scalar reference. -/
theorem test_reference_scenario : bflyRefN scenarioX (splat 16 173#16) (splat 16 229#16)
    = #v[655#16, 2926#16, 3275#16, 1314#16, 2566#16, 3031#16, 1857#16, 1419#16, 1148#16, 3136#16, 439#16, 1524#16,
        3059#16, 3241#16, 2350#16, 1629#16] := by decide

/-- The whole-vector step lists (R71 to R74; R85, R87, R88) give the same lanes as the examples. -/
theorem test_norm_steps : normSteps #v[-3329#32, -1#32, 0#32, 3328#32, 3329#32, 6657#32, 6658#32, -3330#32]
    = #v[0#32, 3328#32, 0#32, 3328#32, 0#32, 3328#32, 3329#32, -1#32] := by decide
theorem test_red_steps : redSteps (n := 4) (by decide) Config.hardware
      #v[0#32, 1#32, 3329#32, 3330#32, 6658#32, 17300#32, 3328#32, 22151168#32]
    = #v[0#32, -3328#32, 3329#32, 1#32, 3329#32, -2176511#32, -11075584#32, 13362608#32] := by decide

/-! ### Refusals and the list of transactions -/

/-- What stopped a step, if anything did. -/
def refusal : Host.Outcome State Fault Refusal → Option Refusal
  | .refused r => some r
  | _ => none

/-- P6: a reserved select has no step (R47). -/
theorem test_step_reserved : refusal (step (State.reset.loadProgram [⟨0b011#3, 0, 0, 0⟩])) = some .reservedSelect := by
  decide

/-- P6: `NORM.N r1, r5` with r5 unset has no step (R29). -/
theorem test_step_unset : refusal (step (State.reset.loadProgram [⟨0b000#3, 1, 5, 0⟩])) = some .operandUnset := by
  decide

/-- R146: from reset no transaction is requested. -/
theorem test_step_reset : refusal (step State.reset) = some .runEnded := by decide

/-- P1: RED.N r1, r0 and then the next line is NORM.N r2, r1 (R24). -/
theorem test_step_advances : (match step ((State.reset.bindR 0 (splat 8 17300#32)).loadProgram
      [⟨0b001#3, 1, 0, 0⟩, ⟨0b000#3, 2, 1, 0⟩]) with
    | .next s => (s.nextLine.map decode == some (.ok (.normN 2 1))) && s.getR 1 == some (splat 8 (-2176511#32))
    | _ => false) = true := by decide

/-- A placed request is the next one, for the six selects of the table. -/
theorem test_placed_words_run :
    ([0, 1, 2, 4, 5, 6].map fun w => refusal (step (State.reset.withFetchWord 8 w))) = [none, none, none, none, none, none]
    := by decide
theorem test_placed_reserved :
    ([3, 7].map fun w => refusal (step (State.reset.withFetchWord 8 w))) = [some .reservedSelect, some .reservedSelect]
    := by decide

end Sys2Proof.Tests
end

