-- ==== Sys2Proof/Tests/Witnesses.lean ====
section
/-!
SUPPORT. One named witness for each obligation that has hypotheses: a concrete state and operands that meet all of them
together, at boundary values where a clause has a range. A witness says that the hypotheses are not empty; it is not the
obligation.
-/

namespace Sys2Proof.Tests

open Sys2Proof Sys2Proof.Machine

/-! ### Configurations and states -/

/-- The CONTRACT model with the other parameters at the hardware's values. -/
def contractConfig : Config := { Config.hardware with reducerModel := .contract }

theorem witness_hardware_follows_datapath :
    FollowsDatapath Config.hardware ∧ Config.hardware.widenSigned = false ∧ Config.hardware.m = Config.mLiteral ∧
    Config.hardware.domainReading = .determinate ∧ Config.hardware.maddOverflow = .wrap ∧
    Config.hardware.packOrderN = .elementInterleave ∧ Config.hardware.packOrderW = .elementInterleave := by
  unfold FollowsDatapath; decide

theorem witness_contract_config :
    MeetsContract contractConfig ∧ contractConfig.packOrderN = .elementInterleave ∧
    contractConfig.packOrderW = .elementInterleave := by unfold MeetsContract; decide

/-- The operands of V-BF-2, all canonical. -/
def agreeX : V16 16 :=
  #v[1#16, 1#16, 1#16, 1#16, 1#16, 1#16, 1#16, 1#16, 2#16, 1#16, 2#16, 1#16, 2#16, 1#16, 2#16, 1#16]
def agreeW1 : V16 16 :=
  #v[0#16, 0#16, 1#16, 0#16, 3328#16, 1#16, 3328#16, 2#16, 3328#16, 1#16, 3328#16, 2#16, 3328#16, 3#16, 3328#16, 4#16]
def agreeW2 : V16 16 :=
  #v[3328#16, 3#16, 3328#16, 2#16, 1#16, 0#16, 0#16, 0#16, 3328#16, 4#16, 3328#16, 3#16, 3328#16, 2#16, 3328#16, 1#16]

/-- A state that holds a value in every operand variable a request over the variables 0, 1, 2 reads. -/
def heldState (c : Config) : State :=
  { ((halvesAt agreeX agreeW1 agreeW2).bindR 1 (splat 8 (-3329#32))).bindWideA 0 (splat 32 3328#16) with
    cfg := c, program := [⟨0b010#3, 0, 1, 2⟩, ⟨0b111#3, 0, 0, 0⟩] }

/-! ### Encoding -/

theorem witness_DecodeEncodeAgree : decode ⟨0b110#3, 7, 0, 3⟩ = .ok (.bflyW 7 0 3) ∧ (Instr.bflyW 7 0 3).fn = .bfly := by
  constructor <;> rfl

theorem witness_DecoderFollowsSelectFields :
    (0b111#3).extractLsb' 0 2 = 3#2 ∧ (0b110#3).extractLsb' 0 2 ≠ 3#2 := by decide

theorem witness_UnusedPortsDoNotInfluence :
    decodeFn 0b000#3 ≠ some .bfly ∧ decodeFn 0b101#3 ≠ some .bfly := by decide

theorem witness_FlatLayoutAndOverlay : laneAt 32 (flat scenarioX) 7 = scenarioX[15] ++ scenarioX[14] := by decide

theorem witness_ByteImageIsLittleEndian :
    (31 < 256 / 8) ∧ (byteImage (flat scenarioX))[31]? = some 0x05#8 := by decide

/-! ### Steps and requests -/

theorem witness_StepRunsDecodedInstruction :
    ∃ (s : State) (l : Line) (i : Instr) (t : State),
      s.nextLine = some l ∧ decode l = .ok i ∧ exec i s = .next t :=
  ⟨heldState Config.hardware, _, _, _, rfl, by rfl, by rfl⟩

theorem witness_StepRunsDecodedInstruction_refused :
    ∃ (s : State) (l : Line) (i : Instr) (r : Refusal),
      s.nextLine = some l ∧ decode l = .ok i ∧ exec i s = .refused r :=
  ⟨State.reset.loadProgram [⟨0b000#3, 0, 1, 2⟩], _, _, _, rfl, by rfl, by rfl⟩

theorem witness_ReservedSelectIsRefused :
    (State.reset.loadProgram [⟨0b011#3, 0, 1, 2⟩]).nextLine = some ⟨0b011#3, 0, 1, 2⟩ ∧
    (State.reset.loadProgram [⟨0b111#3, 0, 1, 2⟩]).nextLine = some ⟨0b111#3, 0, 1, 2⟩ := by decide

theorem witness_RunEndsAfterLastLine : State.reset.program.length ≤ State.reset.pos := by decide

theorem witness_PlacedRequestRunsNext : decodeTableWord 8 0b110 = some (.bflyW 0 1 2) := by decide

theorem witness_EveryReadyRequestHasAStep : (heldState Config.hardware).RequestReady :=
  ⟨⟨0b010#3, 0, 1, 2⟩, .bflyN 0 1 2, rfl, by rfl, by decide⟩

/-! ### Results -/

theorem witness_NormNCompletes :
    (heldState Config.hardware).getR 1 = some (splat 8 (-3329#32)) ∧ NormDom (splat 8 (-3329#32))[(7 : Fin 8)] := by
  decide

theorem witness_NormWCompletes :
    (State.reset.bindWideR 7 (splat 16 6657#32)).getWideR 7 = some (splat 16 6657#32) ∧
    NormDom (splat 16 6657#32)[(15 : Fin 16)] := by decide

theorem witness_RedNCompletes :
    (heldState Config.hardware).getR 1 = some (splat 8 (-3329#32)) ∧ FollowsDatapath (heldState Config.hardware).cfg := by
  unfold FollowsDatapath; decide

theorem witness_RedNCompletes_contract :
    (heldState contractConfig).getR 1 = some (splat 8 (-3329#32)) ∧
    (heldState contractConfig).cfg.reducerModel = .contract ∧
    RedDom (heldState contractConfig).cfg.redBound (splat 8 (-3329#32))[(0 : Fin 8)] := by decide

theorem witness_RedWCompletes :
    (State.reset.bindWideR 0 (splat 16 (-22164482#32))).getWideR 0 = some (splat 16 (-22164482#32)) ∧
    FollowsDatapath (State.reset.bindWideR 0 (splat 16 (-22164482#32))).cfg := by unfold FollowsDatapath; decide

/-- A state of the CONTRACT model with a lane of RedDom at its boundary in R0. -/
theorem witness_RedWCompletes_contract :
    (({ State.reset with cfg := contractConfig } : State).bindWideR 0 (splat 16 (-22164482#32))).getWideR 0
      = some (splat 16 (-22164482#32)) ∧
    (({ State.reset with cfg := contractConfig } : State).bindWideR 0 (splat 16 (-22164482#32))).cfg.reducerModel
      = .contract ∧
    RedDom (({ State.reset with cfg := contractConfig } : State).bindWideR 0 (splat 16 (-22164482#32))).cfg.redBound
      (splat 16 (-22164482#32))[(15 : Fin 16)] := by decide

theorem witness_BflyNCompletes :
    (heldState Config.hardware).getA 0 = some agreeX ∧ (heldState Config.hardware).getA 1 = some agreeW1 ∧
    (heldState Config.hardware).getA 2 = some agreeW2 ∧ FollowsDatapath (heldState Config.hardware).cfg ∧
    (heldState Config.hardware).cfg.widenSigned = false ∧
    (heldState Config.hardware).cfg.packOrderN = .elementInterleave := by unfold FollowsDatapath; decide

theorem witness_BflyWCompletes :
    (heldState Config.hardware).getWideA 0 = some (splat 32 3328#16) ∧ FollowsDatapath (heldState Config.hardware).cfg ∧
    (heldState Config.hardware).cfg.widenSigned = false ∧
    (heldState Config.hardware).cfg.packOrderW = .elementInterleave := by unfold FollowsDatapath; decide

theorem witness_BflyReadsBeforeBinding_aliased : ∃ t, exec (.bflyN 0 0 2) (heldState Config.hardware) = .next t :=
  ⟨_, by rfl⟩

/-! ### Frames, determinism, independence -/

theorem witness_OperationsBindOnlyDestination :
    ∃ t, exec (.redN 0 1) (heldState Config.hardware) = .next t := ⟨_, by rfl⟩

theorem witness_StepKeepsConstantsAndList : ∃ t, step (heldState Config.hardware) = .next t := ⟨_, by rfl⟩

/-- Two different states that agree on the configuration and the operands of NORM.N r0, r1. -/
theorem witness_ResultDependsOnOperandsOnly :
    (heldState Config.hardware).cfg = (wordsAt (splat 8 (-3329#32))).cfg ∧
    (∀ x ∈ (Instr.normN 0 1).reads, (heldState Config.hardware).SameAt (wordsAt (splat 8 (-3329#32))) x) ∧
    (heldState Config.hardware).getA 0 ≠ (wordsAt (splat 8 (-3329#32))).getA 0 := by
  refine ⟨by decide, ?_, by decide⟩
  intro x hx
  obtain rfl : x = .r 1 := by simpa [Instr.reads] using hx
  show State.getR _ _ = State.getR _ _
  decide

theorem witness_IndependentTransactionsCommute :
    Independent (.redN 0 1) (.bflyN 0 1 2) ∧ Independent (.redN 0 1) (.normN 2 1) ∧
    (∃ t, exec (.redN 0 1) (heldState Config.hardware) = .next t) ∧
    (∃ t, exec (.bflyN 0 1 2) (heldState Config.hardware) = .next t) := by
  refine ⟨by unfold Independent; decide, by unfold Independent; decide, ⟨_, by rfl⟩, ⟨_, by rfl⟩⟩

theorem witness_LanesAreIndependent :
    packN1[7] = (packN1.set 0 9#32)[7] ∧ packN1 ≠ packN1.set 0 9#32 ∧
    scenarioX[14] = (scenarioX.set 0 9#16)[14] ∧ scenarioX[15] = (scenarioX.set 0 9#16)[15] := by decide

/-! ### Primitives -/

theorem witness_EvenOddMultiplyIsHighMultiply : (8 = 2 * 4) ∧ (16 = 2 * 8) := by decide

theorem witness_MaddIsExactButOnce :
    PairDom 3328#16 3328#16 3328#16 3328#16 ∧ ¬((3328#16 : Lane16) = 0x8000#16) := by decide

theorem witness_NarrowingsAndTheirAgreement :
    (-32768 ≤ (-32768#32 : Lane32).toInt ∧ (-32768#32 : Lane32).toInt ≤ 32767) ∧
    (0 ≤ (32767#32 : Lane32).toInt ∧ (32767#32 : Lane32).toInt ≤ 32767) := by decide

theorem witness_PackOrdersLaneByLane : (16 = 2 * 8) ∧ (8 % 4 = 0) ∧ (4 * 1 + 3 < 8) ∧ 3 < 4 := by decide

/-! ### Normalizer and Reducer -/

theorem witness_NormalizerFirstMask :
    -2147480319 ≤ (0x80000D01#32 : Lane32).toInt ∧ (0x80000D00#32 : Lane32).toInt < -2147480319 := by decide

theorem witness_NormDom_boundaries :
    NormDom (-3329#32) ∧ NormDom 6657#32 ∧ ¬ NormDom 6658#32 ∧ ¬ NormDom (-3330#32) ∧ ¬ NormDom 0x80000D00#32 ∧
    CanonInt (3328#32 : Lane32).toInt := by decide

theorem witness_ReducerSignedAlternative : ({ Config.hardware with widenSigned := true } : Config).widenSigned = true := rfl

/-- The hardware's u at 1 is 1 and the difference fits; then the boundaries of the unsigned and of the signed clause. -/
theorem witness_ReducerKeepsResidueClass :
    ((1 : Int) = if Config.hardware.widenSigned then redUSignedInt Config.hardware.m.toInt (1#32 : Lane32).toInt
      else redUInt Config.hardware.m.toInt (1#32 : Lane32).toInt) ∧
    -2147483648 ≤ (1#32 : Lane32).toInt - 1 * 3329 ∧ (1#32 : Lane32).toInt - 1 * 3329 ≤ 2147483647 ∧
    (Config.hardware.widenSigned = false ∧ -2136404736 ≤ (BitVec.ofInt 32 (-2136404736)).toInt) ∧
    (({ Config.hardware with widenSigned := true } : Config).widenSigned = true ∧
      -2141944192 ≤ (BitVec.ofInt 32 (-2141944192)).toInt ∧ (BitVec.ofInt 32 (-2141944192)).toInt ≤ 2141940862 ∧
      (2141940862#32 : Lane32).toInt ≤ 2141940862) := by decide

theorem witness_ReducerRangeClaimRefuted :
    11085570 ≤ (11085570#32 : Lane32).toInt ∧ (-3330#32 : Lane32).toInt < -3329 ∧ 3330 ≤ Config.hardware.redBound := by
  decide

theorem witness_ReducerWithHardwareM : (3328#32 : Lane32).toNat ≤ 3328 ∧ (3329#32 : Lane32).toNat = 3329 := by decide

theorem witness_ContractReducer :
    contractConfig.reducerModel = .contract ∧ RedDom contractConfig.redBound 22164482#32 ∧
    ((-3329#32 : Lane32).toInt - (22164482#32 : Lane32).toInt) % 3329 = 0 ∧ NormDom (-3329#32) := by decide

/-! ### Butterfly kernel and invariant -/

/-- One state of the CONTRACT model that meets every hypothesis of both clauses: canonical operands in a0, a1, a2 and in
A0, which serves as all three operands of BFLY.W. -/
theorem witness_ContractBflyIsScalarReference :
    MeetsContract (heldState contractConfig).cfg ∧ (heldState contractConfig).cfg.packOrderN = .elementInterleave ∧
    (heldState contractConfig).cfg.packOrderW = .elementInterleave ∧
    (heldState contractConfig).getA 0 = some agreeX ∧ (heldState contractConfig).getA 1 = some agreeW1 ∧
    (heldState contractConfig).getA 2 = some agreeW2 ∧ BflyDom agreeX agreeW1 agreeW2 ∧
    (heldState contractConfig).getWideA 0 = some (splat 32 3328#16) ∧
    BflyDom (splat 32 3328#16) (splat 32 3328#16) (splat 32 3328#16) := by unfold MeetsContract; decide

/-- V-BF-2: every normalized lane is small, and the hardware's two pack modes differ. -/
theorem witness_CrossWidthEquivalence :
    Config.hardware.packOrderN = .elementInterleave ∧ Config.hardware.packOrderW = .elementInterleave ∧
    Config.hardware.domainReading = .determinate ∧
    Config.hardware.packModeN ≠ .usat ∧ Config.hardware.packModeW ≠ .usat ∧
    ∀ xw ∈ [(agreeX, agreeW1), (agreeX, agreeW2), (agreeX, agreeW1), (agreeX, agreeW2)], ∀ i : Fin 8,
      -32768 ≤ (branchNorm (n := 8) (by decide) Config.hardware .narrow xw.1 xw.2)[i].toInt ∧
      (branchNorm (n := 8) (by decide) Config.hardware .narrow xw.1 xw.2)[i].toInt ≤ 32767 := by decide

theorem witness_CrossWidthEquivalence_equal_modes :
    ({ contractConfig with packModeN := .trunc } : Config).domainReading = .determinate ∧
    ({ contractConfig with packModeN := .trunc } : Config).packOrderN = .elementInterleave ∧
    ({ contractConfig with packModeN := .trunc } : Config).packOrderW = .elementInterleave ∧
    ({ contractConfig with packModeN := .trunc } : Config).packModeN
      = ({ contractConfig with packModeN := .trunc } : Config).packModeW := by decide

theorem witness_CrossWidthEquivalence_contract :
    MeetsContract contractConfig ∧ contractConfig.packOrderN = .elementInterleave ∧
    contractConfig.packOrderW = .elementInterleave ∧ BflyDom agreeX agreeW1 agreeW2 := by unfold MeetsContract; decide

/-- A state of the CONTRACT model with canonical coefficient variables, from which a step goes on. -/
theorem witness_InvariantKeptByEveryStep :
    (heldState contractConfig).Inv ∧ MeetsContract (heldState contractConfig).cfg ∧
    ∃ t, step (heldState contractConfig) = .next t := by
  have hN : ∀ k : VarNo, ((heldState contractConfig).getA k).all (fun x => decide (CanonVec x)) = true := by decide
  have hW : ∀ k : VarNo, ((heldState contractConfig).getWideA k).all (fun x => decide (CanonVec x)) = true := by decide
  refine ⟨⟨by decide, fun _ => ⟨fun k x hx => ?_, fun k x hx => ?_⟩⟩, witness_contract_config.1, ⟨_, by rfl⟩⟩
  · have := hN k
    rw [hx] at this
    simpa using this
  · have := hW k
    rw [hx] at this
    simpa using this

/-! ### The remaining statements, clause by clause -/

theorem witness_LaneArithmeticWraps : 7 < 8 ∧ (31 : Nat) < 32 := by decide

theorem witness_ArithmeticShiftIsFloor : 7 < 8 ∧ (0 : Nat) ≤ 31 ∧ (31 : Nat) ≤ 31 := by decide

theorem witness_MaddIsExactButOnce_lanes : (32 = 2 * 16) ∧ 15 < 16 ∧ Config.hardware.maddOverflow = .wrap := by decide

theorem witness_NormalizerCorrectionSteps : NormDom (-3329#32) ∧ NormDom 6657#32 := by decide

theorem witness_NormalizerMeetsContract : NormDom (-3329#32) ∧ NormDom 6657#32 := by decide

theorem witness_NormalizerIdempotentOnDomain :
    CanonInt (0#32 : Lane32).toInt ∧ CanonInt (3328#32 : Lane32).toInt ∧ NormDom (-3329#32) ∧ NormDom 6657#32 := by
  decide

/-- One lane outside the domain on each side of the wrap, at the boundary. -/
theorem witness_NormalizerOutsideDomain :
    ¬ NormDom 6658#32 ∧ ¬ NormDom (-3330#32) ∧
    (¬ NormDom 0x80000D01#32 ∧ -2147480319 ≤ (0x80000D01#32 : Lane32).toInt) ∧
    (¬ NormDom 0x80000D00#32 ∧ (0x80000D00#32 : Lane32).toInt < -2147480319) := by decide

theorem witness_ReducerStepListOverIntegers : Config.hardware.widenSigned = false := by decide

theorem witness_ReducerEvenOddSteps : (8 = 2 * 4) ∧ (16 = 2 * 8) := by decide

theorem witness_ContractReducerIsExactlyContract :
    contractConfig.reducerModel = .contract ∧ contractConfig.domainReading = .determinate ∧
    RedDom contractConfig.redBound 22164482#32 ∧ RedDom contractConfig.redBound (-22164482#32) ∧
    ((6657#32 : Lane32).toInt - (3328#32 : Lane32).toInt) % 3329 = 0 ∧ NormDom 6657#32 := by decide

theorem witness_ContractNormalizedIsRemainder :
    contractConfig.reducerModel = .contract ∧ RedDom contractConfig.redBound 22164482#32 ∧
    RedDom contractConfig.redBound (-22164482#32) := by decide

theorem witness_ReadingsAgreeInsideDomain :
    NormDom 6657#32 ∧ RedDom Config.hardware.redBound (-22164482#32) := by decide

theorem witness_BflyIsFiveSteps :
    Config.hardware.domainReading = .determinate ∧ Config.hardware.maddOverflow = .wrap ∧ (32 = 2 * 16) ∧ 15 < 16 ∧
    FollowsDatapath Config.hardware := by unfold FollowsDatapath; decide

theorem witness_WideLanesAreNarrowLanes :
    Config.hardware.domainReading = .determinate ∧ contractConfig.domainReading = .determinate := by decide

theorem witness_ZeroMapsToZero : FollowsDatapath Config.hardware := by unfold FollowsDatapath; decide

theorem witness_BoundaryInput : PairDom 3328#16 3328#16 3328#16 3328#16 ∧ PairDom 0#16 0#16 0#16 0#16 := by decide

end Sys2Proof.Tests
end

/-!
PROOFS. The caller's state (spec 10_state.md): the flat layout of a vector, what a result depends on, and reset.
-/

namespace Sys2Proof.Machine

open Sys2Proof

/-! ### The flat layout (R20) -/

/-- Bit `j` of digit `i` stands at bit `w * i + j` of the number. -/
theorem digits_testBit {w : Nat} (xs : List (BitVec w)) (i j : Nat) (hi : i < xs.length) (hj : j < w) :
    (digits xs).testBit (w * i + j) = xs[i].getLsbD j := by
  induction xs generalizing i with
  | nil => simp at hi
  | cons x xs ih =>
    rw [digits, Nat.add_comm x.toNat, Nat.testBit_two_pow_mul_add _ x.isLt]
    cases i with
    | zero => simp [hj, BitVec.getLsbD]
    | succ i =>
      have hge : ¬ w * (i + 1) + j < w := by rw [Nat.mul_succ]; omega
      have hsub : w * (i + 1) + j - w = w * i + j := by rw [Nat.mul_succ]; omega
      rw [if_neg hge, hsub, List.getElem_cons_succ]
      exact ih i (by simpa using hi)

/-- Bit `j` of lane `i` stands at flat bit `w * i + j`. -/
theorem flat_getLsbD {w L : Nat} (v : Vector (BitVec w) L) (i j : Nat) (h : i < L) (hj : j < w) :
    (flat v).getLsbD (w * i + j) = v[i].getLsbD j := by
  have hin : w * i + j < w * L := calc
    w * i + j < w * (i + 1) := by rw [Nat.mul_succ]; omega
    _ ≤ w * L := Nat.mul_le_mul_left w h
  have hbit := digits_testBit v.toList i j (by simpa using h) hj
  simpa only [flat, BitVec.getLsbD_ofNat, hin, decide_true, Bool.true_and, Vector.getElem_toList] using hbit

/-- Read with lanes of its own width, a flat vector gives its lanes back. -/
@[simp] theorem laneAt_flat {w L : Nat} (v : Vector (BitVec w) L) (i : Nat) (h : i < L) :
    laneAt w (flat v) i = v[i] := by
  refine BitVec.eq_of_getLsbD_eq fun j hj => ?_
  rw [laneAt, BitVec.getLsbD_extractLsb', flat_getLsbD v i j h hj, decide_eq_true hj, Bool.true_and]

/-- A lane of twice the width overlays two neighbours: the even one is its low half, the odd one its high half. -/
theorem laneAt_double {n : Nat} (w : Nat) (b : BitVec n) (j : Nat) :
    laneAt (w + w) b j = laneAt w b (2 * j + 1) ++ laneAt w b (2 * j) := by
  have hlow : (w + w) * j = w * (2 * j) := by ring
  have hhigh : w * (2 * j + 1) = w * (2 * j) + w := by ring
  rw [laneAt, laneAt, laneAt, hlow, BitVec.extractLsb'_append_extractLsb'_eq_extractLsb' hhigh]

/-- The overlay on a flat vector: a double-width lane is the concatenation of the two lanes it covers. -/
theorem laneAt_double_flat {w L : Nat} (v : Vector (BitVec w) L) (j : Nat) (h : 2 * j + 1 < L) :
    laneAt (w + w) (flat v) j = v[2 * j + 1] ++ v[2 * j] := by
  rw [laneAt_double, laneAt_flat v (2 * j + 1) h, laneAt_flat v (2 * j) (by omega)]

/-- Settles O6: the lanes are the digits of the flat number, and neighbouring digits concatenate. -/
theorem flatLayoutAndOverlay : Obligations.FlatLayoutAndOverlay := by
  unfold Obligations.FlatLayoutAndOverlay
  exact ⟨fun _ i h v => laneAt_flat v i h, fun _ i h v => laneAt_flat v i h, fun _ i h v => laneAt_flat v i h,
    fun _ j h v => laneAt_double_flat v j h, fun _ k h v => laneAt_double_flat v k h⟩

/-! ### What a result depends on (R15) -/

@[simp] theorem State.sameAt_bindA (s t : State) (k : VarNo) (v : V16 16) :
    (s.bindA k v).SameAt (t.bindA k v) (.a k) := by simp [State.SameAt]

@[simp] theorem State.sameAt_bindR (s t : State) (k : VarNo) (v : V32 8) :
    (s.bindR k v).SameAt (t.bindR k v) (.r k) := by simp [State.SameAt]

@[simp] theorem State.sameAt_bindWideA (s t : State) (k : VarNo) (v : V16 32) :
    (s.bindWideA k v).SameAt (t.bindWideA k v) (.wideA k) := by simp [State.SameAt]

@[simp] theorem State.sameAt_bindWideR (s t : State) (k : VarNo) (v : V32 16) :
    (s.bindWideR k v).SameAt (t.bindWideR k v) (.wideR k) := by simp [State.SameAt]

/-- Settles O25: the operand values read in one state are those read in the other, so each operation computes the same
value there and binds it to the same variable. -/
theorem resultDependsOnOperandsOnly : Obligations.ResultDependsOnOperandsOnly := by
  unfold Obligations.ResultDependsOnOperandsOnly
  intro i s s' t hcfg hreads hexec
  cases exec_next hexec with
  | normN hv => exact ⟨_, exec_normN ((hreads (.r _) List.mem_cons_self).symm.trans hv), hcfg ▸ State.sameAt_bindR ..⟩
  | redN hv => exact ⟨_, exec_redN ((hreads (.r _) List.mem_cons_self).symm.trans hv), hcfg ▸ State.sameAt_bindR ..⟩
  | normW hv =>
    exact ⟨_, exec_normW ((hreads (.wideR _) List.mem_cons_self).symm.trans hv), hcfg ▸ State.sameAt_bindWideR ..⟩
  | redW hv =>
    exact ⟨_, exec_redW ((hreads (.wideR _) List.mem_cons_self).symm.trans hv), hcfg ▸ State.sameAt_bindWideR ..⟩
  | bflyN hx h1 h2 =>
    obtain ⟨ex, e1, e2⟩ : s.getA _ = s'.getA _ ∧ s.getA _ = s'.getA _ ∧ s.getA _ = s'.getA _ := by
      simpa [Instr.reads, State.SameAt] using hreads
    exact ⟨_, exec_bflyN (ex ▸ hx) (e1 ▸ h1) (e2 ▸ h2), hcfg ▸ State.sameAt_bindA ..⟩
  | bflyW hx h1 h2 =>
    obtain ⟨ex, e1, e2⟩ :
        s.getWideA _ = s'.getWideA _ ∧ s.getWideA _ = s'.getWideA _ ∧ s.getWideA _ = s'.getWideA _ := by
      simpa [Instr.reads, State.SameAt] using hreads
    exact ⟨_, exec_bflyW (ex ▸ hx) (e1 ▸ h1) (e2 ▸ h2), hcfg ▸ State.sameAt_bindWideA ..⟩

/-! ### Reset (R28) -/

@[simp] theorem State.holds_reset (x : VarRef) : State.reset.holds x = false := by
  cases x <;> simp [State.holds]

/-- Settles O56: reset leaves all four variable files empty, and the two constants stand in the definitions. -/
theorem resetState : Obligations.ResetState := by
  unfold Obligations.ResetState
  exact ⟨State.holds_reset, rfl, rfl⟩

end Sys2Proof.Machine

/-!
PROOFS. The caller's storage (spec 20_memory.md): the byte image of a flat vector.
-/

namespace Sys2Proof.Machine

open Sys2Proof

/-! ### The byte image (R32) -/

/-- The stored image holds byte `k` at index `k`. -/
theorem byteImage_getElem? {n : Nat} (b : BitVec n) (k : Nat) (h : k < n / 8) :
    (byteImage b)[k]? = some (byteAt b k) := by
  rw [byteImage, List.getElem?_map, List.getElem?_range h, Option.map_some]

/-- A byte whose first flat bit is bit `off` of lane `i`, and that ends inside the lane, is cut from that lane alone. -/
theorem byteAt_flat {w L : Nat} (v : Vector (BitVec w) L) {i off k : Nat} (h : i < L) (hoff : off + 8 ≤ w)
    (hk : 8 * k = w * i + off) : byteAt (flat v) k = v[i].extractLsb' off 8 := by
  refine BitVec.eq_of_getLsbD_eq fun j hj => ?_
  have hbit : (flat v).getLsbD (8 * k + j) = v[i].getLsbD (off + j) := by
    rw [hk, Nat.add_assoc, flat_getLsbD v i (off + j) h (by omega)]
  rw [byteAt, BitVec.getLsbD_extractLsb', BitVec.getLsbD_extractLsb', hbit]

/-- Settles O7: byte `m` of a lane starts at bit `8 * m` of it and stays inside it. -/
theorem byteImageIsLittleEndian : Obligations.ByteImageIsLittleEndian := by
  unfold Obligations.ByteImageIsLittleEndian
  refine ⟨fun n k b hk => byteImage_getElem? b k hk, fun L i h v => ⟨?low16, ?high16⟩,
    fun L j h v => ⟨?byte0, ?byte1, ?byte2, ?byte3⟩⟩
  all_goals exact byteAt_flat v h (by omega) (by omega)

end Sys2Proof.Machine

/-!
PROOFS. The operation select (spec 30_encoding.md): what the decoder reads from the fields V and FN, and the reserved
selects.
-/

namespace Sys2Proof

/-! ### The fields of the select (R44) -/

/-- Field FN holds the code of the function the decoder answers. -/
theorem decodeFn_eq_some_iff {o : BitVec 3} {f : Fn} : decodeFn o = some f ↔ o.extractLsb' 0 2 = encodeFn f := by
  cases f <;> decide +revert

/-- The one code of FN that names no function is 11 (R47). -/
theorem decodeFn_eq_none_iff {o : BitVec 3} : decodeFn o = none ↔ o.extractLsb' 0 2 = 3#2 := by
  decide +revert

theorem decodeVariant_eq_wide_iff {o : BitVec 3} : decodeVariant o = .wide ↔ o.getLsbD 2 = true := by
  decide +revert

@[simp] theorem assemble_variant (v : Variant) (f : Fn) (l : Line) : (assemble v f l).variant = v := by
  cases v <;> cases f <;> rfl

@[simp] theorem assemble_fn (v : Variant) (f : Fn) (l : Line) : (assemble v f l).fn = f := by
  cases v <;> cases f <;> rfl

/-! ### The decoder, a case each (R47, R48) -/

theorem decode_of_decodeFn_eq_some {l : Line} {f : Fn} (h : decodeFn l.opsel = some f) :
    decode l = .ok (assemble (decodeVariant l.opsel) f l) := by
  simp only [decode, h]

theorem decode_of_reserved {l : Line} (h : l.opsel.extractLsb' 0 2 = 3#2) : decode l = .error .reservedSelect := by
  simp only [decode, decodeFn_eq_none_iff.mpr h]

/-- Settles O3: FN = 11 names no function; every other FN names the function whose code it is, and the operation
assembled from it and V has that function and that variant. -/
theorem decoderFollowsSelectFields : Obligations.DecoderFollowsSelectFields := by
  unfold Obligations.DecoderFollowsSelectFields
  refine fun l => ⟨decode_of_reserved, fun hlegal => ?_⟩
  obtain ⟨f, hf⟩ := Option.ne_none_iff_exists'.mp (mt decodeFn_eq_none_iff.mp hlegal)
  have hvariant : (assemble (decodeVariant l.opsel) f l).variant = .wide ↔ l.opsel.getLsbD 2 = true := by
    rw [assemble_variant, decodeVariant_eq_wide_iff]
  have hfn (g : Fn) : (assemble (decodeVariant l.opsel) f l).fn = g ↔ l.opsel.extractLsb' 0 2 = encodeFn g := by
    rw [assemble_fn, ← decodeFn_eq_some_iff, hf, Option.some_inj]
  exact ⟨_, decode_of_decodeFn_eq_some hf, hvariant, hfn .norm, hfn .red, hfn .bfly⟩

end Sys2Proof

namespace Sys2Proof.Machine

open Sys2Proof

/-! ### The step on a reserved select (R47, R51) -/

theorem step_of_decode_error {s : State} {l : Line} (hl : s.nextLine = some l)
    (hd : decode l = .error .reservedSelect) : step s = .refused .reservedSelect := by
  simp only [step, hl, hd]

/-- Settles O9: both selects have FN = 11, so the line does not decode, and step passes the refusal on. -/
theorem reservedSelectIsRefused : Obligations.ReservedSelectIsRefused := by
  unfold Obligations.ReservedSelectIsRefused
  intro s l hl hsel
  have hreserved : l.opsel.extractLsb' 0 2 = 3#2 := by
    obtain h | h := hsel <;> rw [h] <;> decide
  exact step_of_decode_error hl (decode_of_reserved hreserved)

end Sys2Proof.Machine

/-!
PROOFS. The lane primitives (spec 40_lane_primitives.md): what each scalar law gives over the integers, and where the
pack puts each lane.
-/

namespace Sys2Proof.Machine

open Sys2Proof

/-! ### Wrapped integers (00_scope.md section 4) -/

theorem wrap32_toInt_eq_wrapInt (z : Int) : (wrap32 z).toInt = wrapInt 32 z := wrap32_toInt z

theorem wrap16_toInt_eq_wrapInt (z : Int) : (wrap16 z).toInt = wrapInt 16 z := wrap16_toInt z

theorem wrap32_toNat (z : Int) : ((wrap32 z).toNat : Int) = z % 4294967296 := by
  rw [wrap32, BitVec.toNat_ofInt]
  omega

theorem wrap16_toNat (z : Int) : ((wrap16 z).toNat : Int) = z % 65536 := by
  rw [wrap16, BitVec.toNat_ofInt]
  omega

/-! ### Arithmetic in a lane (R54 to R60) -/

theorem andLane_getLsbD (a b : Lane32) (k : Nat) : (andLane a b).getLsbD k = (a.getLsbD k && b.getLsbD k) :=
  BitVec.getLsbD_and

theorem andnotLane_getLsbD (m a : Lane32) {k : Nat} (hk : k < 32) :
    (andnotLane m a).getLsbD k = (!m.getLsbD k && a.getLsbD k) := by
  rw [andnotLane, BitVec.getLsbD_and, BitVec.getLsbD_not, decide_eq_true hk, Bool.true_and]

/-- Settles O28: each lane is its scalar law, a wrapped integer for R54, R55 and R60 and a Boolean of bits for R57 and
R58. -/
theorem laneArithmeticWraps : Obligations.LaneArithmeticWraps := by
  unfold Obligations.LaneArithmeticWraps
  intro L i h a b
  rw [add32_getElem, sub32_getElem, mullo32_getElem, and32_getElem, andnot32_getElem]
  exact ⟨wrap32_toInt_eq_wrapInt _, wrap32_toInt_eq_wrapInt _, wrap32_toNat _, andLane_getLsbD a[i] b[i],
    fun _ => andnotLane_getLsbD a[i] b[i]⟩

/-! ### The arithmetic right shift (R56) -/

theorem sraLane_toInt (a : Lane32) (k : Nat) : (sraLane a k).toInt = a.toInt / 2 ^ k := by
  rw [sraLane_eq, BitVec.toInt_sshiftRight, Int.shiftRight_eq_div_pow]
  norm_cast

/-- A shift by 31 leaves the sign alone: a lane over 2^31 lies in [-1, 1), so its floor is -1 or 0. -/
theorem sraLane_thirtyOne (a : Lane32) : sraLane a 31 = if a.toInt < 0 then 0xFFFFFFFF#32 else 0#32 := by
  obtain ⟨hlow, hhigh⟩ := lane32_range a
  apply BitVec.eq_of_toInt_eq
  rw [sraLane_toInt]
  split
  case isTrue hneg => exact (show a.toInt / 2 ^ 31 = -1 by omega)
  case isFalse hnonneg => exact (show a.toInt / 2 ^ 31 = 0 by omega)

/-- Settles O29: over the positive 2^k the model's quotient is the floor. -/
theorem arithmeticShiftIsFloor : Obligations.ArithmeticShiftIsFloor := by
  unfold Obligations.ArithmeticShiftIsFloor
  intro L i k h a _
  rw [sra32_getElem, sra32_getElem]
  refine ⟨?_, sraLane_thirtyOne _⟩
  rw [sraLane_toInt, Int.fdiv_eq_ediv_of_nonneg _ (by positivity)]

/-! ### Multiply-accumulate (R64) -/

/-- A product of two signed 16-bit values lies in [-32768 * 32767, 32768 * 32768]. -/
theorem lane16_mul_range (x w : Lane16) :
    -1073709056 ≤ x.toInt * w.toInt ∧ x.toInt * w.toInt ≤ 1073741824 := by
  obtain ⟨hx, hx'⟩ := lane16_range x
  obtain ⟨hw, hw'⟩ := lane16_range w
  constructor <;> nlinarith

/-- Only -32768 times -32768 reaches the upper end of the range. -/
theorem lane16_eq_of_mul_eq {x w : Lane16} (h : x.toInt * w.toInt = 1073741824) :
    x = 0x8000#16 ∧ w = 0x8000#16 := by
  obtain ⟨hx, hx'⟩ := lane16_range x
  obtain ⟨hw, hw'⟩ := lane16_range w
  have hxmin : x.toInt = -32768 := by nlinarith
  have hwmin : w.toInt = -32768 := by nlinarith
  exact ⟨BitVec.eq_of_toInt_eq hxmin, BitVec.eq_of_toInt_eq hwmin⟩

theorem maddOverflows_iff {x0 x1 w0 w1 : Lane16} : maddOverflows x0 x1 w0 w1 = true ↔
    x0 = 0x8000#16 ∧ x1 = 0x8000#16 ∧ w0 = 0x8000#16 ∧ w1 = 0x8000#16 := by
  simp only [maddOverflows, Bool.and_eq_true, beq_iff_eq, and_assoc]

/-- Off the one overflowing input every configuration gives the wrapped sum (U11). -/
theorem maddLane_eq_of_not_overflow (c : Config) {x0 x1 w0 w1 : Lane16}
    (h : ¬ maddOverflows x0 x1 w0 w1 = true) :
    maddLane c x0 x1 w0 w1 = wrap32 (x0.toInt * w0.toInt + x1.toInt * w1.toInt) :=
  if_neg fun hc => h hc.2

/-- The sum of products leaves the 32-bit range only if both products are at their maximum. -/
theorem maddLane_toInt_of_not_overflow (c : Config) {x0 x1 w0 w1 : Lane16}
    (h : ¬ maddOverflows x0 x1 w0 w1 = true) :
    (maddLane c x0 x1 w0 w1).toInt = x0.toInt * w0.toInt + x1.toInt * w1.toInt := by
  obtain ⟨hlow0, hhigh0⟩ := lane16_mul_range x0 w0
  obtain ⟨hlow1, hhigh1⟩ := lane16_mul_range x1 w1
  have hsum : x0.toInt * w0.toInt + x1.toInt * w1.toInt < 2147483648 := by
    by_contra hge
    obtain ⟨hx0, hw0⟩ := lane16_eq_of_mul_eq (x := x0) (w := w0) (by omega)
    obtain ⟨hx1, hw1⟩ := lane16_eq_of_mul_eq (x := x1) (w := w1) (by omega)
    exact h (maddOverflows_iff.mpr ⟨hx0, hx1, hw0, hw1⟩)
  rw [maddLane_eq_of_not_overflow c h, wrap32_toInt_of_range (by omega) hsum]

theorem canonInt_mul_range {x w : Int} (hx : CanonInt x) (hw : CanonInt w) : 0 ≤ x * w ∧ x * w ≤ 11075584 := by
  obtain ⟨hx0, hxq⟩ := hx
  obtain ⟨hw0, hwq⟩ := hw
  constructor <;> nlinarith

/-- Canonical lanes are never the overflowing input. -/
theorem maddLane_toInt_of_pairDom (c : Config) {x0 x1 w0 w1 : Lane16} (h : PairDom x0 x1 w0 w1) :
    (maddLane c x0 x1 w0 w1).toInt = x0.toInt * w0.toInt + x1.toInt * w1.toInt := by
  refine maddLane_toInt_of_not_overflow c fun hover => ?_
  obtain ⟨rfl, -⟩ := maddOverflows_iff.mp hover
  exact absurd h.1 (by decide)

theorem maddLane_range_of_pairDom (c : Config) {x0 x1 w0 w1 : Lane16} (h : PairDom x0 x1 w0 w1) :
    0 ≤ (maddLane c x0 x1 w0 w1).toInt ∧ (maddLane c x0 x1 w0 w1).toInt ≤ 22151168 := by
  rw [maddLane_toInt_of_pairDom c h]
  obtain ⟨hx0, hx1, hw0, hw1⟩ := h
  have h0 := canonInt_mul_range hx0 hw0
  have h1 := canonInt_mul_range hx1 hw1
  omega

/-- Settles O31: the lane pairing of `madd16`, and the scalar law clause by clause. -/
theorem maddIsExactButOnce : Obligations.MaddIsExactButOnce := by
  unfold Obligations.MaddIsExactButOnce
  refine ⟨fun m n i h hi c x w => madd16_getElem h c x w i hi, fun c x0 x1 w0 w1 => ⟨fun hwrap => ?wrapped,
    fun hnot => maddLane_toInt_of_not_overflow c (mt maddOverflows_iff.mp hnot), fun hwrap => ?overflow,
    maddLane_range_of_pairDom c⟩⟩
  case wrapped => rw [maddLane_eq_wrap x0 x1 w0 w1 hwrap, wrap32_toInt_eq_wrapInt]
  case overflow =>
    rw [maddLane_eq_wrap _ _ _ _ hwrap]
    decide

/-! ### The narrowings (R65, R66) -/

/-- Keeping the low 16 bits is wrapping the signed value. -/
theorem narrowTrunc_eq_wrap16 (v : Lane32) : narrowTrunc v = wrap16 v.toInt := calc
  v.extractLsb' 0 16 = v.setWidth 16 := (BitVec.setWidth_eq_extractLsb' (by decide)).symm
  _ = v.signExtend 16 := (BitVec.signExtend_eq_setWidth_of_le v (by decide)).symm
  _ = wrap16 v.toInt := rfl

theorem narrowSsat_toInt (v : Lane32) : (narrowSsat v).toInt = max (-32768) (min 32767 v.toInt) :=
  wrap16_toInt_of_range (by omega) (by omega)

theorem narrowUsat_toNat (v : Lane32) : ((narrowUsat v).toNat : Int) = max 0 (min 65535 v.toInt) := by
  rw [narrowUsat, wrap16_toNat]
  omega

theorem narrowTrunc_toInt_of_range {v : Lane32} (h1 : -32768 ≤ v.toInt) (h2 : v.toInt ≤ 32767) :
    (narrowTrunc v).toInt = v.toInt := by
  rw [narrowTrunc_eq_wrap16, wrap16_toInt_of_range h1 (by omega)]

/-- A clamp that changes nothing leaves the truncation. -/
theorem narrowSsat_eq_narrowTrunc {v : Lane32} (h1 : -32768 ≤ v.toInt) (h2 : v.toInt ≤ 32767) :
    narrowSsat v = narrowTrunc v := by
  rw [narrowSsat, narrowTrunc_eq_wrap16, min_eq_right h2, max_eq_right h1]

theorem narrowUsat_eq_narrowTrunc {v : Lane32} (h1 : 0 ≤ v.toInt) (h2 : v.toInt ≤ 65535) :
    narrowUsat v = narrowTrunc v := by
  rw [narrowUsat, narrowTrunc_eq_wrap16, min_eq_right h2, max_eq_right h1]

/-- Settles O32: all three narrowings wrap an integer to 16 bits, and differ in the clamp before it. -/
theorem narrowingsAndTheirAgreement : Obligations.NarrowingsAndTheirAgreement := by
  unfold Obligations.NarrowingsAndTheirAgreement
  refine fun v => ⟨?_, narrowSsat_toInt v, narrowUsat_toNat v,
    fun h1 h2 => ⟨narrowTrunc_toInt_of_range h1 h2, narrowSsat_eq_narrowTrunc h1 h2⟩,
    fun h1 h2 => narrowUsat_eq_narrowTrunc h1 (by omega)⟩
  rw [narrowTrunc_eq_wrap16, wrap16_toInt_eq_wrapInt]

/-! ### The lane orders of the pack (R67) -/

section
variable {m n : Nat} (hm : m = 2 * n) (y1 y2 : V16 n)

theorem interleave_even (i : Nat) (h : i < n) : (interleave hm y1 y2)[2 * i] = y1[i] := by
  simp

theorem interleave_odd (i : Nat) (h : i < n) : (interleave hm y1 y2)[2 * i + 1] = y2[i] := by
  have hhalf : (2 * i + 1) / 2 = i := by omega
  simp [hhalf]

theorem concatLanes_left (i : Nat) (h : i < n) : (concatLanes hm y1 y2)[i] = y1[i] := by
  simp [h]

theorem concatLanes_right (i : Nat) (h : i < n) : (concatLanes hm y1 y2)[n + i] = y2[i] := by
  simp

theorem block4_first (h4 : n % 4 = 0) (b j : Nat) (hb : 4 * b + j < n) (hj : j < 4) :
    (block4 hm h4 y1 y2)[8 * b + j]'(by omega) = y1[4 * b + j] := by
  have hpos : (8 * b + j) % 8 < 4 := by omega
  have hsrc : 4 * ((8 * b + j) / 8) + (8 * b + j) % 4 = 4 * b + j := by omega
  simp only [block4_getElem, if_pos hpos, hsrc]

theorem block4_second (h4 : n % 4 = 0) (b j : Nat) (hb : 4 * b + j < n) (hj : j < 4) :
    (block4 hm h4 y1 y2)[8 * b + 4 + j]'(by omega) = y2[4 * b + j] := by
  have hpos : ¬ (8 * b + 4 + j) % 8 < 4 := by omega
  have hsrc : 4 * ((8 * b + 4 + j) / 8) + (8 * b + 4 + j) % 4 = 4 * b + j := by omega
  simp only [block4_getElem, if_neg hpos, hsrc]

end

/-- Settles O33: each order puts the narrowed lanes where R67 says. -/
theorem packOrdersLaneByLane : Obligations.PackOrdersLaneByLane := by
  unfold Obligations.PackOrdersLaneByLane
  intro n m hm h4 mode n1 n2
  simp only [pack, arrange]
  refine ⟨fun i h => ?_, fun b j hb hj => ?_⟩
  · rw [interleave_even hm _ _ i h, interleave_odd hm _ _ i h, concatLanes_left hm _ _ i h,
      concatLanes_right hm _ _ i h, mapLanes_getElem, mapLanes_getElem]
    exact ⟨rfl, rfl, rfl, rfl⟩
  · rw [block4_first hm _ _ h4 b j hb hj, block4_second hm _ _ h4 b j hb hj, mapLanes_getElem, mapLanes_getElem]
    exact ⟨rfl, rfl⟩

end Sys2Proof.Machine

/-!
PROOFS. The Normalizer (spec 41_normalizer.md): the four steps of a lane over the integers, their closed form, and the
contract on [-q, 2q).
-/

namespace Sys2Proof.Machine

open Sys2Proof

/-! ### The sign mask and the two selections by it (R71 to R74) -/

theorem signMask_eq (t : Lane32) : signMask t = if t.toInt < 0 then 0xFFFFFFFF#32 else 0#32 :=
  sraLane_thirtyOne t

theorem whereClear_signMask (t x : Lane32) : whereClear (signMask t) x = if t.toInt < 0 then 0#32 else x := by
  rw [signMask_eq, whereClear, andnotLane]
  split
  case isTrue => exact BitVec.zero_and
  case isFalse => exact BitVec.allOnes_and

theorem whereSet_signMask (t x : Lane32) : whereSet (signMask t) x = if t.toInt < 0 then x else 0#32 := by
  rw [signMask_eq, whereSet, andLane]
  split
  case isTrue => exact BitVec.and_allOnes
  case isFalse => exact BitVec.and_zero

/-! ### Step 1: the difference and where it wraps (R71) -/

theorem normT1_toInt (r : Lane32) : (normT1 r).toInt = wrapInt 32 (r.toInt - 3329) := wrap32_toInt_eq_wrapInt _

theorem normT1_toInt_of_ge {r : Lane32} (h : -2147480319 ≤ r.toInt) : (normT1 r).toInt = r.toInt - 3329 := by
  obtain ⟨-, hhigh⟩ := lane32_range r
  exact wrap32_toInt_of_range (z := r.toInt - 3329) (by omega) (by omega)

/-- Below the bound the difference wraps once, to a value near the top of the 32-bit range. -/
theorem normT1_toInt_of_lt {r : Lane32} (h : r.toInt < -2147480319) :
    (normT1 r).toInt = r.toInt - 3329 + 4294967296 := by
  obtain ⟨hlow, -⟩ := lane32_range r
  rw [normT1_toInt, wrapInt, ← Int.add_bmod_right]
  exact Int.bmod_eq_of_le (by omega) (by omega)

/-- Settles O34: the two ranges of the difference give the sign, and the sign gives the mask. -/
theorem normalizerFirstMask : Obligations.NormalizerFirstMask := by
  unfold Obligations.NormalizerFirstMask
  refine fun r => ⟨normT1_toInt r, signMask_eq _, fun hge => ?exact, fun hlt => ?wrapped⟩
  case exact =>
    rw [normT1_toInt_of_ge hge]
    omega
  case wrapped =>
    obtain ⟨hlow, -⟩ := lane32_range r
    have hpos : 0 < (normT1 r).toInt := by
      rw [normT1_toInt_of_lt hlt]
      omega
    exact ⟨hpos, (signMask_eq _).trans (if_neg (by omega))⟩

/-! ### Steps 2 to 4 and the closed form (R72 to R75) -/

/-- Step 2 subtracts nothing from a lane whose difference is negative, and gives the difference itself otherwise. -/
theorem normR1_eq (r : Lane32) : normR1 r = if (normT1 r).toInt < 0 then r else normT1 r := by
  rw [normR1, whereClear_signMask]
  split
  case isTrue => rw [subLane_eq, BitVec.sub_zero]
  case isFalse => rfl

/-- The last step adds q exactly to a negative lane, so it cannot wrap. -/
theorem normFix_toInt (r1 : Lane32) : (normFix r1).toInt = if r1.toInt < 0 then r1.toInt + 3329 else r1.toInt := by
  obtain ⟨hlow, -⟩ := lane32_range r1
  rw [normFix, whereSet_signMask]
  split
  case isTrue hneg => exact wrap32_toInt_of_range (z := r1.toInt + 3329) (by omega) (by omega)
  case isFalse => rw [addLane_eq, BitVec.add_zero]

/-- The four steps are the closed form on every lane: the first two cases of `normInt` part where step 1 wraps. -/
theorem normDatapath_toInt (r : Lane32) : (normDatapath r).toInt = normInt r.toInt := by
  obtain ⟨hlow, hhigh⟩ := lane32_range r
  rw [normDatapath, normFix_toInt, normR1_eq]
  by_cases hwrap : r.toInt < -2147480319
  · have ht := normT1_toInt_of_lt hwrap
    rw [if_neg (show ¬ (normT1 r).toInt < 0 by omega), ht, normInt]
    split_ifs <;> omega
  · have ht := normT1_toInt_of_ge (Int.not_lt.mp hwrap)
    rw [apply_ite BitVec.toInt, ht, normInt]
    split_ifs <;> omega

/-- The steps on a whole vector are the lane function in every lane. -/
theorem normSteps_eq_mapLanes {L : Nat} (r : V32 L) : normSteps r = mapLanes normDatapath r := by
  ext i hi : 1
  simp only [normSteps, add32_getElem, sub32_getElem, sra32_getElem, and32_getElem, andnot32_getElem, splat_getElem,
    mapLanes_getElem]
  rfl

/-! ### The Normalizer of a configuration on its domain (R70, R76, R80) -/

/-- On [-q, 2q) the closed form is the residue: one q is added, none, or one subtracted. -/
theorem normInt_eq_emod_of_normDomInt {z : Int} (h : NormDomInt z) : normInt z = z % 3329 := by
  obtain ⟨hlow, hhigh⟩ := h
  unfold normInt
  split_ifs <;> omega

theorem normLane_toInt {c : Config} {v : Variant} {r : Lane32}
    (h : (c.domainReading = .determinate ∧ c.normModel = .datapath) ∨ NormDom r) :
    (normLane c v r).toInt = normInt r.toInt := by
  rw [normLane_eq_datapath h, normDatapath_toInt]

theorem normLane_toInt_of_normDom (c : Config) (v : Variant) {r : Lane32} (h : NormDom r) :
    (normLane c v r).toInt = r.toInt % 3329 := by
  rw [normLane_toInt (Or.inr h), normInt_eq_emod_of_normDomInt h]

/-- In the datapath's configuration the Normalizer of either variant is the four steps on the vector. -/
theorem normVec_eq_normSteps {L : Nat} {c : Config} (v : Variant) (r : V32 L) (hd : c.domainReading = .determinate)
    (hm : c.normModel = .datapath) : normVec c v r = normSteps r := by
  rw [normSteps_eq_mapLanes]
  ext i hi : 1
  rw [normVec_getElem, mapLanes_getElem, normLane_eq_datapath (Or.inl ⟨hd, hm⟩)]

/-- Settles O37: the result is the residue of the lane, which is canonical and congruent to it. -/
theorem normalizerMeetsContract : Obligations.NormalizerMeetsContract := by
  unfold Obligations.NormalizerMeetsContract
  intro c v r h
  have hmod := normLane_toInt_of_normDom c v h
  refine ⟨⟨?_, ?_⟩, ?_, hmod⟩ <;> omega

theorem encodeSelect_narrow_norm : encodeSelect .narrow .norm = 0b000#3 := by decide

theorem toPorts_normN (R : V32 8) : (Request.normN R).toPorts = .narrow 0b000#3 (flat R) 0 0 :=
  congrArg (Ports.narrow · (flat R) 0 0) encodeSelect_narrow_norm

/-- Settles O16: the vector bound is `normVec` of the operand, lane by lane the Normalizer of the configuration. -/
theorem normNCompletes : Obligations.NormNCompletes := by
  unfold Obligations.NormNCompletes
  intro rd rs s v hv
  refine ⟨encodeSelect_narrow_norm, ⟨0, 0, toPorts_normN v⟩, normVec s.cfg .narrow v, exec_normN hv, rfl, rfl,
    normVec_eq_normSteps .narrow v, fun i h => ?_⟩
  rw [Fin.getElem_fin, normVec_getElem]
  exact normLane_toInt h

end Sys2Proof.Machine

/-!
PROOFS. The Reducer (spec 42_reducer.md): the high half of a widening multiply, the step list of a lane over the
integers, its even and odd realization, and the contract of R83.
-/

namespace Sys2Proof.Machine

open Sys2Proof

/-! ### The widening multiply and its high half (R61 to R63) -/

theorem mulwideLane_unsigned_toNat (a c : Lane32) : (mulwideLane false a c).toNat = a.toNat * c.toNat := by
  have hfits : a.toNat * c.toNat < 2 ^ 32 * 2 ^ 32 := Nat.mul_lt_mul'' a.isLt c.isLt
  exact Nat.mod_eq_of_lt hfits

theorem mulwideLane_signed_toInt (a c : Lane32) : (mulwideLane true a c).toInt = a.toInt * c.toInt := by
  obtain ⟨ha, ha'⟩ := lane32_range a
  obtain ⟨hc, hc'⟩ := lane32_range c
  have hlow : -2 ^ 63 ≤ a.toInt * c.toInt := by nlinarith
  have hhigh : a.toInt * c.toInt < 2 ^ 63 := by nlinarith
  exact BitVec.toInt_ofInt_eq_self (by decide) hlow hhigh

theorem highHalf_toNat (p : Lane64) : (highHalf p).toNat = p.toNat / 4294967296 := by
  have hp := p.isLt
  rw [highHalf, BitVec.extractLsb'_toNat, Nat.shiftRight_eq_div_pow]
  omega

/-- The high half of a signed product is its floor over 2^32. -/
theorem highHalf_toInt (p : Lane64) : (highHalf p).toInt = p.toInt / 4294967296 := by
  have hp := p.isLt
  rw [BitVec.toInt_eq_toNat_cond, BitVec.toInt_eq_toNat_cond, highHalf_toNat]
  split_ifs <;> omega

theorem mulhiLane_unsigned_toNat (a c : Lane32) :
    (mulhiLane false a c).toNat = a.toNat * c.toNat / 4294967296 := by
  rw [mulhiLane, highHalf_toNat, mulwideLane_unsigned_toNat]

theorem mulhiLane_signed_toInt (a c : Lane32) : (mulhiLane true a c).toInt = a.toInt * c.toInt / 4294967296 := by
  rw [mulhiLane, highHalf_toInt, mulwideLane_signed_toInt]

/-- Taking the high halves of the even and of the odd products apart and putting them back is `mulhi32` (R62, R63). -/
theorem recombineHi_mulwide {L n : Nat} (h : L = 2 * n) (sg : Bool) (a : V32 L) (c : Lane32) :
    recombineHi h (mulwideEven h sg a c) (mulwideOdd h sg a c) = mulhi32 sg a c := by
  ext i hi : 1
  rw [recombineHi_getElem, mulwideEven_getElem, mulwideOdd_getElem, mulhi32_getElem, mulhiLane]
  split
  case isTrue heven => simp only [show 2 * (i / 2) = i by omega]
  case isFalse hodd => simp only [show 2 * (i / 2) + 1 = i by omega]

/-! ### Steps t and u (R85, R86) -/

theorem redT_toInt (c : Config) (v : Lane32) : (redT c v).toInt = wrapInt 32 (v.toInt * c.m.toInt) :=
  wrap32_toInt_eq_wrapInt _

theorem redT_toNat (c : Config) (v : Lane32) : ((redT c v).toNat : Int) = redTInt c.m.toInt v.toInt :=
  wrap32_toNat _

section
variable {c : Config} (hw : c.widenSigned = false)
include hw

theorem redU_toNat (t : Lane32) : (redU c t).toNat = t.toNat * 3329 / 4294967296 := by
  rw [redU, hw, mulhiLane_unsigned_toNat]
  rfl

theorem redU_redT_toNat (v : Lane32) : ((redU c (redT c v)).toNat : Int) = redUInt c.m.toInt v.toInt := by
  rw [redU_toNat hw, redUInt, ← redT_toNat]
  norm_cast

/-- t is below 2^32, so the floor of t * q over 2^32 is below q. -/
theorem redU_toNat_le (t : Lane32) : (redU c t).toNat ≤ 3328 := by
  have ht := t.isLt
  rw [redU_toNat hw]
  omega

end

theorem redU_signed_toInt {c : Config} (hw : c.widenSigned = true) (t : Lane32) :
    (redU c t).toInt = t.toInt * 3329 / 4294967296 := by
  rw [redU, hw, mulhiLane_signed_toInt]
  rfl

theorem redU_redT_signed_toInt {c : Config} (hw : c.widenSigned = true) (v : Lane32) :
    (redU c (redT c v)).toInt = redUSignedInt c.m.toInt v.toInt := by
  rw [redU_signed_toInt hw, redT_toInt, redUSignedInt]

/-! ### The subtracted multiple and the result (R87) -/

/-- A multiple of q below 2^32 is kept whole by the low half. -/
theorem redP_toNat {u : Lane32} (hu : u.toNat ≤ 3328) : (redP u).toNat = u.toNat * 3329 := by
  rw [redP, mulloLane_eq, qLane_eq, BitVec.toNat_mul]
  exact Nat.mod_eq_of_lt (show u.toNat * 3329 < 4294967296 by omega)

/-- The result wraps once, whatever the widening: the wrap of the multiple of q is absorbed by that of the
difference. -/
theorem redDatapath_toInt_eq_wrapInt (c : Config) (v : Lane32) :
    (redDatapath c v).toInt = wrapInt 32 (v.toInt - (redU c (redT c v)).toInt * 3329) := by
  rw [redDatapath, redP, subLane, mulloLane, wrap32_toInt_eq_wrapInt, wrap32_toInt_eq_wrapInt]
  exact Int.sub_bmod_bmod

/-- The step list is the pseudocode of R84, and with the signed widening that of R95. -/
theorem redDatapath_toInt (c : Config) (v : Lane32) : (redDatapath c v).toInt =
    if c.widenSigned then redSignedInt c.m.toInt v.toInt else redInt c.m.toInt v.toInt := by
  rw [redDatapath_toInt_eq_wrapInt]
  cases hw : c.widenSigned with
  | true => rw [redU_redT_signed_toInt hw, if_pos rfl, redSignedInt]
  | false =>
    have hle := redU_toNat_le hw (redT c v)
    have hu : (redU c (redT c v)).toInt = (redU c (redT c v)).toNat := BitVec.toInt_eq_toNat_of_lt (by omega)
    rw [hu, redU_redT_toNat hw, if_neg Bool.false_ne_true, redInt]

/-- Settles O40: t and u are read without sign, and u at most 3328 leaves the multiple of q unwrapped. -/
theorem reducerStepListOverIntegers : Obligations.ReducerStepListOverIntegers := by
  unfold Obligations.ReducerStepListOverIntegers
  intro c v hw
  have hu := redU_toNat_le hw (redT c v)
  have hp := redP_toNat hu
  refine ⟨redT_toNat c v, redU_redT_toNat hw v, hu, hp, by omega, ?_⟩
  rw [redDatapath_toInt, hw, if_neg Bool.false_ne_true]

/-! ### The even and odd realization on a vector (R88) -/

/-- The steps on a whole vector are the lane function in every lane. -/
theorem redSteps_eq_mapLanes {L n : Nat} (h : L = 2 * n) (c : Config) (r : V32 L) :
    redSteps h c r = mapLanes (redDatapath c) r := by
  ext i hi : 1
  simp only [redSteps, recombineHi_mulwide, sub32_getElem, mullo32_getElem, mulhi32_getElem, splat_getElem,
    mapLanes_getElem]
  rfl

/-! ### The Reducer of a configuration (R94, R96) -/

section
variable {c : Config} (hc : FollowsDatapath c)
include hc

theorem redLane_eq_redDatapath (v : Variant) (x : Lane32) : redLane c v x = redDatapath c x := by
  obtain ⟨hreading, hmodel, -, -⟩ := hc
  exact redLane_eq_datapath hmodel (Or.inl hreading)

theorem redVec_eq_redSteps {L n : Nat} (h : L = 2 * n) (v : Variant) (r : V32 L) :
    redVec c v r = redSteps h c r := by
  rw [redSteps_eq_mapLanes]
  exact congrArg (mapLanes · r) (funext (redLane_eq_redDatapath hc v))

theorem redLane_toInt (v : Variant) (x : Lane32) : (redLane c v x).toInt =
    if c.widenSigned then redSignedInt c.m.toInt x.toInt else redInt c.m.toInt x.toInt := by
  rw [redLane_eq_redDatapath hc, redDatapath_toInt]

end

/-- Whichever representative is chosen, the wrap changes nothing. -/
theorem redContract_toInt (x : Lane32) :
    (redContract x).toInt = x.toInt % 3329 + 3329 * ((Config.reducerChoice x).val - 1) := by
  have hchoice := (Config.reducerChoice x).isLt
  exact wrap32_toInt_of_range (by omega) (by omega)

/-- In the CONTRACT model both variants meet the contract of R83. -/
theorem redLane_meets_contract {c : Config} (v : Variant) (hm : c.reducerModel = .contract) :
    RedContract c.redBound (redLane c v) := by
  intro x h
  have hchoice := (Config.reducerChoice x).isLt
  rw [redLane_eq_contract hm h, NormDom, redContract_toInt]
  refine ⟨?_, ?_, ?_⟩ <;> omega

/-! ### RED on the ports (R45, R96, R97) -/

theorem encodeSelect_narrow_red : encodeSelect .narrow .red = 0b001#3 := by decide

theorem encodeSelect_wide_red : encodeSelect .wide .red = 0b101#3 := by decide

theorem toPorts_redN (R : V32 8) : (Request.redN R).toPorts = .narrow 0b001#3 (flat R) 0 0 :=
  congrArg (Ports.narrow · (flat R) 0 0) encodeSelect_narrow_red

theorem toPorts_redW (R : V32 16) : (Request.redW R).toPorts = .wide 0b101#3 (flat R) 0 0 :=
  congrArg (Ports.wide · (flat R) 0 0) encodeSelect_wide_red

/-- Settles O18: the vector bound is `redVec` of the operand, lane by lane the Reducer of the configuration. -/
theorem redNCompletes : Obligations.RedNCompletes := by
  unfold Obligations.RedNCompletes
  intro rd rs s v hv
  refine ⟨encodeSelect_narrow_red, ⟨0, 0, toPorts_redN v⟩, redVec s.cfg .narrow v, exec_redN hv, rfl, rfl,
    fun hc => redVec_eq_redSteps hc _ .narrow v, fun hc i => ?datapath, fun hm i hdom => ?contract⟩ <;>
    rw [Fin.getElem_fin, redVec_getElem]
  case datapath => exact redLane_toInt hc .narrow v[i]
  case contract => exact redLane_meets_contract .narrow hm v[i] hdom

/-- Settles O19: as O18, the lane function being the same over 16 lanes. -/
theorem redWCompletes : Obligations.RedWCompletes := by
  unfold Obligations.RedWCompletes
  intro rd rs s v hv
  refine ⟨encodeSelect_wide_red, ⟨0, 0, toPorts_redW v⟩, redVec s.cfg .wide v, exec_redW hv, rfl, rfl,
    fun hc => redVec_eq_redSteps hc _ .wide v, fun hc i => ?datapath, fun hm i hdom => ?contract⟩ <;>
    rw [Fin.getElem_fin, redVec_getElem]
  case datapath => exact redLane_toInt hc .wide v[i]
  case contract => exact redLane_meets_contract .wide hm v[i] hdom

end Sys2Proof.Machine

/-!
PROOFS. The Butterfly kernel (spec 43_butterfly.md): the lane function over the integers, where the kernel puts each
branch, the five steps, and the boundary input.
-/

namespace Sys2Proof.Machine

open Sys2Proof

/-! ### The lane function over the integers (R102 to R107) -/

theorem narrowLane_toInt (mode : PackMode) (v : Lane32) : (narrowLane mode v).toInt = narrowInt mode v.toInt := by
  cases mode with
  | trunc => exact (congrArg _ (narrowTrunc_eq_wrap16 v)).trans (wrap16_toInt_eq_wrapInt _)
  | ssat => exact narrowSsat_toInt v
  | usat => exact wrap16_toInt_eq_wrapInt _

theorem maddLane_toInt_of_wrap {c : Config} (h : c.maddOverflow = .wrap) (x0 x1 w0 w1 : Lane16) :
    (maddLane c x0 x1 w0 w1).toInt = maddInt x0.toInt x1.toInt w0.toInt w1.toInt := by
  rw [maddLane_eq_wrap x0 x1 w0 w1 h, wrap32_toInt_eq_wrapInt, maddInt]

theorem normLane_eq_normDatapath {c : Config} (hc : FollowsDatapath c) (v : Variant) (r : Lane32) :
    normLane c v r = normDatapath r := by
  obtain ⟨hreading, -, hnorm, -⟩ := hc
  exact normLane_eq_datapath (Or.inl ⟨hreading, hnorm⟩)

/-- On the datapath with the unsigned widening a lane of a branch is the lane function of the lane pair it reads. -/
theorem branchOut_toInt {c : Config} (hc : FollowsDatapath c) (hw : c.widenSigned = false) {m n : Nat}
    (hm : m = 2 * n) (v : Variant) (b : Branch) (x w : V16 m) (i : Nat) (h : i < n) :
    (branchOut hm c v b x w)[i].toInt
      = bflyInt (c.packMode v) c.m.toInt x[2 * i].toInt x[2 * i + 1].toInt w[2 * i].toInt w[2 * i + 1].toInt := by
  have ⟨hreading, _, _, hwrap⟩ := hc
  rw [branchOut_getElem, branchLane_eq (Or.inl hreading), branchNorm_getElem, narrowLane_toInt,
    normLane_eq_normDatapath hc, normDatapath_toInt, redLane_toInt hc, hw, if_neg Bool.false_ne_true,
    maddLane_toInt_of_wrap hwrap, bflyInt]

/-! ### Where the kernel puts the branches (R106, R107) -/

section
variable {m n : Nat} (hm : m = 2 * n) (h4 : n % 4 = 0) {c : Config} {v : Variant}
variable (ho : c.packOrder v = .elementInterleave) (x w1 w2 : V16 m) (i : Nat) (h : i < n)
include ho h

theorem bfly_even : (bfly hm h4 c v x w1 w2)[2 * i] = (branchOut hm c v .one x w1)[i] := by
  simp only [bfly, ho, arrange]
  exact interleave_even hm _ _ i h

theorem bfly_odd : (bfly hm h4 c v x w1 w2)[2 * i + 1] = (branchOut hm c v .two x w2)[i] := by
  simp only [bfly, ho, arrange]
  exact interleave_odd hm _ _ i h

/-- R107: even lanes are the lane function with W1, odd lanes with W2, each of the lane pair of its own index. -/
theorem bfly_toInt (hc : FollowsDatapath c) (hw : c.widenSigned = false) :
    (bfly hm h4 c v x w1 w2)[2 * i].toInt = bflyInt (c.packMode v) c.m.toInt x[2 * i].toInt x[2 * i + 1].toInt
        w1[2 * i].toInt w1[2 * i + 1].toInt ∧
    (bfly hm h4 c v x w1 w2)[2 * i + 1].toInt = bflyInt (c.packMode v) c.m.toInt x[2 * i].toInt x[2 * i + 1].toInt
        w2[2 * i].toInt w2[2 * i + 1].toInt := by
  rw [bfly_even hm h4 ho x w1 w2 i h, bfly_odd hm h4 ho x w1 w2 i h]
  exact ⟨branchOut_toInt hc hw hm v .one x w1 i h, branchOut_toInt hc hw hm v .two x w2 i h⟩

end

/-! ### BFLY on the ports and in the state (R45, R108, R115, R116) -/

theorem encodeSelect_narrow_bfly : encodeSelect .narrow .bfly = 0b010#3 := by decide

theorem encodeSelect_wide_bfly : encodeSelect .wide .bfly = 0b110#3 := by decide

theorem toPorts_bflyN (X W1 W2 : V16 16) :
    (Request.bflyN X W1 W2).toPorts = .narrow 0b010#3 (flat X) (flat W1) (flat W2) :=
  congrArg (Ports.narrow · (flat X) (flat W1) (flat W2)) encodeSelect_narrow_bfly

theorem toPorts_bflyW (X W1 W2 : V16 32) :
    (Request.bflyW X W1 W2).toPorts = .wide 0b110#3 (flat X) (flat W1) (flat W2) :=
  congrArg (Ports.wide · (flat X) (flat W1) (flat W2)) encodeSelect_wide_bfly

/-- Settles O20: the vector bound is the kernel of the three old values, lane by lane the lane function. -/
theorem bflyNCompletes : Obligations.BflyNCompletes := by
  unfold Obligations.BflyNCompletes
  intro ax aw1 aw2 s x w1 w2 hx h1 h2
  exact ⟨encodeSelect_narrow_bfly, toPorts_bflyN x w1 w2, bflyN s.cfg x w1 w2, exec_bflyN hx h1 h2, rfl, rfl,
    fun hc hw ho i h => bfly_toInt (v := .narrow) _ _ ho x w1 w2 i h hc hw⟩

/-- Settles O21: as O20, the lane function being the same over 32 lanes. -/
theorem bflyWCompletes : Obligations.BflyWCompletes := by
  unfold Obligations.BflyWCompletes
  intro ax aw1 aw2 s x w1 w2 hx h1 h2
  exact ⟨encodeSelect_wide_bfly, toPorts_bflyW x w1 w2, bflyW s.cfg x w1 w2, exec_bflyW hx h1 h2, rfl, rfl,
    fun hc hw ho i h => bfly_toInt (v := .wide) _ _ ho x w1 w2 i h hc hw⟩

/-- Two names of one variable read the same value. -/
theorem read_eq_of_alias {α : Type} {read : VarNo → Option α} {j k : VarNo} {a b : α} (ha : read j = some a)
    (hb : read k = some b) (h : k = j) : b = a := by
  subst h
  exact Option.some.inj (hb.symm.trans ha)

theorem State.getA_bindA_of_ne (s : State) {k j : VarNo} (v : V16 16) (h : j ≠ k) :
    (s.bindA k v).getA j = s.getA j := by
  rw [State.getA_bindA, if_neg h.symm]

theorem State.getWideA_bindWideA_of_ne (s : State) {k j : VarNo} (v : V16 32) (h : j ≠ k) :
    (s.bindWideA k v).getWideA j = s.getWideA j := by
  rw [State.getWideA_bindWideA, if_neg h.symm]

/-- Settles O22: the result is computed from the values read in the old state, and only ax is bound. -/
theorem bflyReadsBeforeBinding : Obligations.BflyReadsBeforeBinding := by
  unfold Obligations.BflyReadsBeforeBinding
  refine ⟨fun ax aw1 aw2 s x w1 w2 hx h1 h2 => ⟨_, exec_bflyN hx h1 h2, ?narrow, read_eq_of_alias hx h1,
      read_eq_of_alias hx h2, fun hne => (s.getA_bindA_of_ne _ hne).trans h1,
      fun hne => (s.getA_bindA_of_ne _ hne).trans h2⟩,
    fun ax aw1 aw2 s x w1 w2 hx h1 h2 => ⟨_, exec_bflyW hx h1 h2, ?wide, read_eq_of_alias hx h1,
      read_eq_of_alias hx h2, fun hne => (s.getWideA_bindWideA_of_ne _ hne).trans h1,
      fun hne => (s.getWideA_bindWideA_of_ne _ hne).trans h2⟩⟩
  case narrow => rw [State.getA_bindA, if_pos rfl]
  case wide => rw [State.getWideA_bindWideA, if_pos rfl]

/-! ### The five steps (R102 to R106) -/

/-- Settles O49: the pack of the two branches, the wrapped multiply-accumulate of a lane, and the lane functions of the
datapath. -/
theorem bflyIsFiveSteps : Obligations.BflyIsFiveSteps := by
  unfold Obligations.BflyIsFiveSteps
  refine ⟨fun c x w1 w2 hd => bfly_eq_pack _ _ c .narrow x w1 w2 hd,
    fun c x w1 w2 hd => bfly_eq_pack _ _ c .wide x w1 w2 hd, fun m n i hm hi c x w hwrap => ?madd,
    fun c v n i hi r hc => ⟨?red, ?norm⟩⟩
  case madd => rw [madd16_getElem hm c x w i hi, maddLane_toInt_of_wrap hwrap, maddInt]
  case red => rw [redVec_getElem, redLane_eq_redDatapath hc]
  case norm => rw [normVec_getElem, normLane_eq_normDatapath hc]

/-! ### Equal lanes, and the boundary input (R117) -/

/-- In the determinate reading equal lanes of X and equal twiddle lanes give equal result lanes, whatever the order. -/
theorem bfly_splat {m n : Nat} (hm : m = 2 * n) (h4 : n % 4 = 0) {c : Config} (v : Variant) (x w : Lane16)
    (hd : c.domainReading = .determinate) :
    bfly hm h4 c v (splat m x) (splat m w) (splat m w)
      = splat m (narrowLane (c.packMode v) (normLane c v (redLane c v (maddLane c x x w w)))) := by
  have hbranch (b : Branch) (i : Nat) (h : i < n) : (branchOut hm c v b (splat m x) (splat m w))[i]
      = narrowLane (c.packMode v) (normLane c v (redLane c v (maddLane c x x w w))) := by
    simp only [branchOut_getElem, branchLane_eq (Or.inl hd), branchNorm_getElem, splat_getElem]
  ext j hj : 1
  rw [splat_getElem]
  exact arrange_forall hm h4 _ _ _ (· = _) (hbranch .one) (hbranch .two) j hj

theorem maddLane_boundary : maddLane Config.hardware 3328#16 3328#16 3328#16 3328#16 = 22151168#32 := by decide

theorem redDatapath_boundary : redDatapath Config.hardware 22151168#32 = 13362608#32 := by decide

theorem normDatapath_boundary : normDatapath 13362608#32 = 13359279#32 := by decide

theorem hardware_followsDatapath : FollowsDatapath Config.hardware := ⟨rfl, rfl, rfl, rfl⟩

/-- The normalized lane of the boundary input, in both variants. -/
theorem normLane_boundary (v : Variant) : normLane Config.hardware v
    (redLane Config.hardware v (maddLane Config.hardware 3328#16 3328#16 3328#16 3328#16)) = 13359279#32 := by
  rw [normLane_eq_normDatapath hardware_followsDatapath, redLane_eq_redDatapath hardware_followsDatapath,
    maddLane_boundary, redDatapath_boundary, normDatapath_boundary]

theorem bfly_boundary {m n : Nat} (hm : m = 2 * n) (h4 : n % 4 = 0) (v : Variant) :
    bfly hm h4 Config.hardware v (splat m 3328#16) (splat m 3328#16) (splat m 3328#16)
      = splat m (narrowLane (Config.hardware.packMode v) 13359279#32) := by
  rw [bfly_splat hm h4 v _ _ rfl, normLane_boundary]

/-- Settles O54: the boundary input step by step; signed saturation in variant N and truncation in variant W part the
results. -/
theorem boundaryInput : Obligations.BoundaryInput := by
  unfold Obligations.BoundaryInput
  have hssat : narrowLane (Config.hardware.packMode .narrow) 13359279#32 = 32767#16 := by decide
  have htrunc : narrowLane (Config.hardware.packMode .wide) 13359279#32 = 0xD8AF#16 := by decide
  rw [maddLane_boundary, redDatapath_boundary, normDatapath_boundary, bflyN, bflyW, bfly_boundary, bfly_boundary,
    hssat, htrunc]
  exact ⟨by decide, fun c _ _ _ _ h => maddLane_toInt_of_pairDom c h, by decide, by decide, by decide, rfl, rfl,
    by decide⟩

end Sys2Proof.Machine

/-!
PROOFS. A line and the ports (spec 30_encoding.md): decode and encode undo each other, and what ports of either width
carry.
-/

namespace Sys2Proof

/-! ### Decode and encode (R44, R48, R49) -/

theorem decode_encode (i : Instr) : decode (encode i) = .ok i := by
  cases i with
  | normN rd rs => exact (Laws.LineRoundTrip.normN rd rs).2
  | redN rd rs => exact (Laws.LineRoundTrip.redN rd rs).2
  | bflyN ax aw1 aw2 => exact (Laws.LineRoundTrip.bflyN ax aw1 aw2).2
  | normW rd rs => exact (Laws.LineRoundTrip.normW rd rs).2
  | redW rd rs => exact (Laws.LineRoundTrip.redW rd rs).2
  | bflyW ax aw1 aw2 => exact (Laws.LineRoundTrip.bflyW ax aw1 aw2).2

/-- The select is its two fields and nothing else. -/
theorem encodeSelect_decode {o : BitVec 3} {f : Fn} (h : decodeFn o = some f) :
    encodeSelect (decodeVariant o) f = o := by
  cases f <;> decide +revert

@[simp] theorem encode_opsel (i : Instr) : (encode i).opsel = encodeSelect i.variant i.fn := by
  cases i <;> rfl

/-- Encoding what a line assembles to writes the variable numbers of that line back, the third one for BFLY. -/
theorem encode_assemble_vars (v : Variant) (f : Fn) (l : Line) :
    (encode (assemble v f l)).dst = l.dst ∧ (encode (assemble v f l)).src1 = l.src1 ∧
      (f = .bfly → (encode (assemble v f l)).src2 = l.src2) := by
  cases v <;> cases f <;> exact ⟨rfl, rfl, by simp [encode, assemble]⟩

/-- Settles O2: an operation's line decodes to it; conversely a decoded line has the select of its two fields and the
variable numbers the operation was assembled from. -/
theorem decodeEncodeAgree : Obligations.DecodeEncodeAgree := by
  unfold Obligations.DecodeEncodeAgree
  refine ⟨decode_encode, fun l i h => ?_⟩
  obtain ⟨hfn, hi⟩ := decode_ok h
  have hvariant : i.variant = decodeVariant l.opsel := by rw [hi, assemble_variant]
  obtain ⟨hdst, hsrc1, hsrc2⟩ := encode_assemble_vars (decodeVariant l.opsel) i.fn l
  rw [← hi] at hdst hsrc1 hsrc2
  exact ⟨by rw [encode_opsel, hvariant, encodeSelect_decode hfn], hdst, hsrc1, hsrc2⟩

/-- Settles O1: a row of the table each. -/
theorem opcodeTableWordsDecode : Obligations.OpcodeTableWordsDecode := by
  unfold Obligations.OpcodeTableWordsDecode
  decide

end Sys2Proof

namespace Sys2Proof.Machine

open Sys2Proof

/-! ### The ports (R20, R44, R45) -/

/-- A lane vector is read back whole from its flat form. -/
@[simp] theorem lanesOf_flat {w L : Nat} (v : Vector (BitVec w) L) : lanesOf w L (flat v) = v := by
  ext i hi : 1
  rw [lanesOf, Vector.getElem_ofFn, laneAt_flat v i hi]

/-- Settles O4: the select decodes to the variant and function it was made of, and each flat operand gives its lanes
back. -/
theorem requestPortsRoundTrip : Obligations.RequestPortsRoundTrip := by
  unfold Obligations.RequestPortsRoundTrip
  intro q
  cases q <;> simp only [Request.toPorts, Ports.toRequest, decodeVariant_encodeSelect, decodeFn_encodeSelect,
    lanesOf_flat]

/-- Settles O5: only BFLY reads ports B and C. -/
theorem unusedPortsDoNotInfluence : Obligations.UnusedPortsDoNotInfluence := by
  unfold Obligations.UnusedPortsDoNotInfluence
  constructor
  all_goals
    intro o A B C B' C' hfn
    simp only [Ports.toRequest]
    cases decodeVariant o <;> cases hf : decodeFn o with
    | none => rfl
    | some f => cases f <;> simp_all

/-- Ports carry a request exactly where the select names a function, in the variant of the ports' width. -/
theorem toRequest_narrow_eq_none_iff {o : BitVec 3} {A B C : BitVec 256} :
    (Ports.narrow o A B C).toRequest = none ↔ decodeFn o = none ∨ decodeVariant o = .wide := by
  simp only [Ports.toRequest]
  cases decodeVariant o <;> cases decodeFn o with
  | none => simp
  | some f => cases f <;> simp

theorem toRequest_wide_eq_none_iff {o : BitVec 3} {A B C : BitVec 512} :
    (Ports.wide o A B C).toRequest = none ↔ decodeFn o = none ∨ decodeVariant o ≠ .wide := by
  simp only [Ports.toRequest]
  cases decodeVariant o <;> cases decodeFn o with
  | none => simp
  | some f => cases f <;> simp

/-- Settles O59: the reserved code of FN and the wrong value of V. -/
theorem portsCarryRequestExactlyWhenLegal : Obligations.PortsCarryRequestExactlyWhenLegal := by
  unfold Obligations.PortsCarryRequestExactlyWhenLegal
  refine ⟨fun o A B C => ?narrow, fun o A B C => ?wide⟩
  case narrow => rw [toRequest_narrow_eq_none_iff, decodeFn_eq_none_iff, decodeVariant_eq_wide_iff]
  case wide =>
    rw [toRequest_wide_eq_none_iff, decodeFn_eq_none_iff, Ne, decodeVariant_eq_wide_iff, Bool.not_eq_true]

end Sys2Proof.Machine

/-!
PROOFS. A transaction as the caller sees it (spec 10_state.md, 30_encoding.md section 6): an operation is the request of
its operand values, served and delivered; and the caller's list of transactions.
-/

namespace Sys2Proof.Machine

open Sys2Proof

/-! ### An operation is its request, served and delivered (R14, R51) -/

/-- Settles O15: the operand form of each operation goes on exactly where every operand it takes holds a value. -/
theorem execIsServeOfRequest : Obligations.ExecIsServeOfRequest := by
  unfold Obligations.ExecIsServeOfRequest
  intro i s
  cases i with
  | normN rd rs => simp only [exec, execNormN, requestOf]; cases s.getR rs <;> rfl
  | redN rd rs => simp only [exec, execRedN, requestOf]; cases s.getR rs <;> rfl
  | bflyN ax aw1 aw2 =>
    simp only [exec, execBflyN, requestOf]
    cases s.getA ax <;> cases s.getA aw1 <;> cases s.getA aw2 <;> rfl
  | normW rd rs => simp only [exec, execNormW, requestOf]; cases s.getWideR rs <;> rfl
  | redW rd rs => simp only [exec, execRedW, requestOf]; cases s.getWideR rs <;> rfl
  | bflyW ax aw1 aw2 =>
    simp only [exec, execBflyW, requestOf]
    cases s.getWideA ax <;> cases s.getWideA aw1 <;> cases s.getWideA aw2 <;> rfl

theorem exec_of_requestOf_eq_some {i : Instr} {s : State} {q : Request} (h : requestOf i s = some q) :
    exec i s = .next (s.deliver i.dst (serve s.cfg q)) := by
  rw [execIsServeOfRequest i s, h]

theorem exec_of_requestOf_eq_none {i : Instr} {s : State} (h : requestOf i s = none) :
    exec i s = .refused .operandUnset := by
  rw [execIsServeOfRequest i s, h]

/-- A next state of an operation is the delivery of its served request. -/
theorem requestOf_of_exec_eq_next {i : Instr} {s t : State} (h : exec i s = .next t) :
    ∃ q, requestOf i s = some q ∧ t = s.deliver i.dst (serve s.cfg q) := by
  cases hq : requestOf i s with
  | none => cases (exec_of_requestOf_eq_none hq).symm.trans h
  | some q =>
    cases (exec_of_requestOf_eq_some hq).symm.trans h
    exact ⟨q, rfl, rfl⟩

/-! ### Operands without a value (R29, U10) -/

/-- An operation makes no request exactly when a variable it reads holds no value. -/
theorem requestOf_eq_none_iff {i : Instr} {s : State} :
    requestOf i s = none ↔ ∃ x ∈ i.reads, s.holds x = false := by
  cases i with
  | normN rd rs | redN rd rs | normW rd rs | redW rd rs => simp [requestOf, Instr.reads, State.holds]
  | bflyN ax aw1 aw2 =>
    simp only [requestOf, Instr.reads, List.exists_mem_cons_iff, State.holds]
    cases s.getA ax <;> cases s.getA aw1 <;> cases s.getA aw2 <;> simp
  | bflyW ax aw1 aw2 =>
    simp only [requestOf, Instr.reads, List.exists_mem_cons_iff, State.holds]
    cases s.getWideA ax <;> cases s.getWideA aw1 <;> cases s.getWideA aw2 <;> simp

/-- An operation whose operand variables all hold values completes. -/
theorem exec_isNext_of_holds {i : Instr} {s : State} (h : ∀ x ∈ i.reads, s.holds x = true) :
    ∃ t, exec i s = .next t := by
  cases hq : requestOf i s with
  | none =>
    obtain ⟨x, hx, hunset⟩ := requestOf_eq_none_iff.mp hq
    cases hunset.symm.trans (h x hx)
  | some q => exact ⟨_, exec_of_requestOf_eq_some hq⟩

/-- Settles O10: exec refuses where there is no request, and answers a next state where there is one. -/
theorem unsetOperandIsRefused : Obligations.UnsetOperandIsRefused := by
  unfold Obligations.UnsetOperandIsRefused
  intro i s
  rw [← requestOf_eq_none_iff]
  refine ⟨fun h => ?_, exec_of_requestOf_eq_none⟩
  cases hq : requestOf i s with
  | none => rfl
  | some q => cases (exec_of_requestOf_eq_some hq).symm.trans h

/-! ### What a step does with the next line (R51, R146) -/

theorem step_of_nextLine_eq_none {s : State} (h : s.nextLine = none) : step s = .refused .runEnded := by
  simp only [step, h]

theorem step_of_decode_ok {s : State} {l : Line} {i : Instr} (hl : s.nextLine = some l) (hd : decode l = .ok i) :
    step s = afterExec (exec i s) := by
  simp only [step, hl, hd]

/-- Settles O8: the step is what follows exec. -/
theorem stepRunsDecodedInstruction : Obligations.StepRunsDecodedInstruction := by
  unfold Obligations.StepRunsDecodedInstruction
  intro s l i hl hd
  rw [step_of_decode_ok hl hd]
  exact ⟨fun t h => by rw [h]; rfl, fun r h => by rw [h]; rfl⟩

/-- Settles O11: past the last line there is no next line. -/
theorem runEndsAfterLastLine : Obligations.RunEndsAfterLastLine := by
  unfold Obligations.RunEndsAfterLastLine
  exact fun s h => step_of_nextLine_eq_none (List.getElem?_eq_none h)

theorem exec_isNext_or_operandUnset (i : Instr) (s : State) :
    (∃ t, exec i s = .next t) ∨ exec i s = .refused .operandUnset := by
  cases hq : requestOf i s with
  | none => exact .inr (exec_of_requestOf_eq_none hq)
  | some q => exact .inl ⟨_, exec_of_requestOf_eq_some hq⟩

/-- Settles O14: no line, a line that does not decode, and the two answers of exec. -/
theorem nothingFaults : Obligations.NothingFaults := by
  unfold Obligations.NothingFaults
  refine ⟨exec_isNext_or_operandUnset, fun s => ?_⟩
  cases hl : s.nextLine with
  | none => exact .inr <| .inr <| .inr <| step_of_nextLine_eq_none hl
  | some l =>
    cases hd : decode l with
    | error e => exact .inr <| .inl <| step_of_decode_error hl hd
    | ok i =>
      rw [step_of_decode_ok hl hd]
      obtain ⟨t, ht⟩ | hunset := exec_isNext_or_operandUnset i s
      · exact .inl ⟨t.advance, by rw [ht, afterExec_next]⟩
      · exact .inr <| .inr <| .inl <| by rw [hunset, afterExec_refused]

/-! ### The frame of a binding (R16, R21, R29) -/

/-- `t` is `s` with one variable bound: that variable holds a value, and nothing else of the state differs. -/
structure BindsOnly (s : State) (x : VarRef) (t : State) : Prop where
  holds : t.holds x = true
  sameAt : ∀ y : VarRef, y ≠ x → s.SameAt t y
  cfg : t.cfg = s.cfg
  program : t.program = s.program
  pos : t.pos = s.pos

/-- The variable a response is bound to: its number, in the file of the response's type. -/
def Response.target (k : VarNo) : Response → VarRef
  | .words8 _ => .r k
  | .halves16 _ => .a k
  | .words16 _ => .wideR k
  | .halves32 _ => .wideA k

theorem deliver_bindsOnly (s : State) (k : VarNo) (r : Response) : BindsOnly s (r.target k) (s.deliver k r) := by
  cases r
  all_goals
    refine ⟨?held, fun y hy => ?other, rfl, rfl, rfl⟩
    case held => simp [Response.target, State.deliver, State.holds]
    case other => cases y <;> simp_all [Response.target, State.deliver, State.SameAt, eq_comm]

theorem State.SameAt.holds_eq {s t : State} {x : VarRef} (h : s.SameAt t x) : s.holds x = t.holds x := by
  cases x <;> exact congrArg Option.isSome h

/-- A binding takes no value away. -/
theorem BindsOnly.holds_of_holds {s t : State} {x y : VarRef} (h : BindsOnly s x t) (hy : s.holds y = true) :
    t.holds y = true := by
  by_cases hxy : y = x
  · exact hxy ▸ h.holds
  · exact (h.sameAt y hxy).holds_eq ▸ hy

/-- The response to an operation's request is of the type of the variable the operation binds. -/
theorem target_serve {i : Instr} {s : State} {q : Request} (h : requestOf i s = some q) (c : Config) :
    (serve c q).target i.dst = i.writes := by
  cases i with
  | normN rd rs | redN rd rs | normW rd rs | redW rd rs =>
    obtain ⟨v, -, rfl⟩ := Option.map_eq_some_iff.mp h
    rfl
  | bflyN ax aw1 aw2 | bflyW ax aw1 aw2 =>
    obtain ⟨x, -, h⟩ := Option.bind_eq_some_iff.mp h
    obtain ⟨w1, -, h⟩ := Option.bind_eq_some_iff.mp h
    obtain ⟨w2, -, rfl⟩ := Option.map_eq_some_iff.mp h
    rfl

theorem exec_bindsOnly {i : Instr} {s t : State} (h : exec i s = .next t) : BindsOnly s i.writes t := by
  obtain ⟨q, hq, rfl⟩ := requestOf_of_exec_eq_next h
  exact target_serve hq s.cfg ▸ deliver_bindsOnly s i.dst (serve s.cfg q)

/-- Settles O23: the next state is a delivery, and a delivery binds one variable. -/
theorem operationsBindOnlyDestination : Obligations.OperationsBindOnlyDestination := by
  unfold Obligations.OperationsBindOnlyDestination
  intro i s t h
  obtain ⟨hholds, hsame, hcfg, hprogram, hpos⟩ := exec_bindsOnly h
  exact ⟨hholds, hsame, hcfg, hprogram, hpos⟩

theorem State.holds_advance (s : State) (x : VarRef) : s.advance.holds x = s.holds x := by
  cases x <;> rfl

theorem State.holds_loadProgram (s : State) (p : List Line) (x : VarRef) :
    (s.loadProgram p).holds x = s.holds x := by
  cases x <;> rfl

/-- Settles O24: the step is a binding, after which the caller goes one line further inside its list. -/
theorem stepKeepsConstantsAndList : Obligations.StepKeepsConstantsAndList := by
  unfold Obligations.StepKeepsConstantsAndList
  intro s t h
  obtain ⟨l, i, u, hl, -, hu, rfl⟩ := step_next h
  have hframe := exec_bindsOnly hu
  have hlt := State.pos_lt_of_nextLine hl
  rw [State.advance_cfg, State.advance_program, State.advance_pos, hframe.cfg, hframe.program, hframe.pos]
  refine ⟨rfl, rfl, rfl, hlt, fun x hx => ?_⟩
  rw [State.holds_advance, hframe.holds_of_holds hx]

/-- Settles O13: the line decodes and its operation completes, so the step does, with the frame of O24. -/
theorem everyReadyRequestHasAStep : Obligations.EveryReadyRequestHasAStep := by
  unfold Obligations.EveryReadyRequestHasAStep
  intro s ⟨l, i, hl, hd, hholds⟩
  obtain ⟨u, hu⟩ := exec_isNext_of_holds hholds
  have hstep : step s = .next u.advance := by rw [step_of_decode_ok hl hd, hu, afterExec_next]
  obtain ⟨hcfg, hprogram, hpos, -⟩ := stepKeepsConstantsAndList s _ hstep
  exact ⟨_, hstep, hpos, hprogram, hcfg⟩

/-! ### Placing a request (log 6) -/

/-- Presenting a zero operand is the delivery of a vector of zeros to a variable that holds no value. -/
theorem presentZero_eq_ite (s : State) (x : VarRef) :
    ∃ k r, Response.target k r = x ∧ s.presentZero x = if s.holds x = true then s else s.deliver k r := by
  cases x with
  | a k => exact ⟨k, .halves16 _, rfl, rfl⟩
  | r k => exact ⟨k, .words8 _, rfl, rfl⟩
  | wideA k => exact ⟨k, .halves32 _, rfl, rfl⟩
  | wideR k => exact ⟨k, .words16 _, rfl, rfl⟩

theorem presentZero_cases (s : State) (x : VarRef) :
    (s.holds x = true ∧ s.presentZero x = s) ∨ BindsOnly s x (s.presentZero x) := by
  obtain ⟨k, r, rfl, heq⟩ := presentZero_eq_ite s x
  rw [heq]
  split
  case isTrue hx => exact .inl ⟨hx, rfl⟩
  case isFalse => exact .inr (deliver_bindsOnly s k r)

theorem presentZero_holds (s : State) (x : VarRef) : (s.presentZero x).holds x = true := by
  obtain ⟨hx, heq⟩ | hbind := presentZero_cases s x
  · rw [heq, hx]
  · exact hbind.holds

theorem presentZero_holds_of_holds {s : State} {y : VarRef} (x : VarRef) (hy : s.holds y = true) :
    (s.presentZero x).holds y = true := by
  obtain ⟨-, heq⟩ | hbind := presentZero_cases s x
  · rw [heq, hy]
  · exact hbind.holds_of_holds hy

theorem presentZero_cfg (s : State) (x : VarRef) : (s.presentZero x).cfg = s.cfg := by
  obtain ⟨-, heq⟩ | hbind := presentZero_cases s x
  · rw [heq]
  · exact hbind.cfg

theorem foldl_presentZero_holds (xs : List VarRef) (s : State) (y : VarRef) (h : y ∈ xs ∨ s.holds y = true) :
    (xs.foldl State.presentZero s).holds y = true := by
  induction xs generalizing s with
  | nil => simpa using h
  | cons x xs ih =>
    refine ih _ ?_
    obtain hmem | hy := h
    · obtain rfl | hmem := List.mem_cons.mp hmem
      · exact .inr (presentZero_holds s y)
      · exact .inl hmem
    · exact .inr (presentZero_holds_of_holds x hy)

theorem foldl_presentZero_cfg (xs : List VarRef) (s : State) : (xs.foldl State.presentZero s).cfg = s.cfg := by
  induction xs generalizing s with
  | nil => rfl
  | cons x xs ih => exact (ih _).trans (presentZero_cfg s x)

theorem decode_of_decodeTableWord {nbits w : Nat} {i : Instr} (h : decodeTableWord nbits w = some i) :
    decode (tableLine nbits w) = .ok i := by
  rw [decodeTableWord] at h
  cases hd : decode (tableLine nbits w) with
  | error e => rw [hd] at h; cases h
  | ok j => rw [hd] at h; cases h; rfl

theorem withFetchWord_of_decodeTableWord (s : State) {nbits w : Nat} {i : Instr}
    (h : decodeTableWord nbits w = some i) :
    s.withFetchWord nbits w = (i.reads.foldl State.presentZero s).loadProgram [tableLine nbits w] := by
  rw [State.withFetchWord, State.placeRequest, State.presentOperands, decode_of_decodeTableWord h]

/-- Settles O12: the placed line is the next one, and each of its operands holds a value or the zeros presented. -/
theorem placedRequestRunsNext : Obligations.PlacedRequestRunsNext := by
  unfold Obligations.PlacedRequestRunsNext
  intro s nbits w i hi
  rw [withFetchWord_of_decodeTableWord s hi]
  obtain ⟨t, ht⟩ := exec_isNext_of_holds (i := i)
    (s := (i.reads.foldl State.presentZero s).loadProgram [tableLine nbits w])
    fun x hx => by rw [State.holds_loadProgram, foldl_presentZero_holds _ s x (.inl hx)]
  have hframe := exec_bindsOnly ht
  have hadvance : t.advance = { t with pos := 1 } := by
    rw [State.advance, hframe.pos, State.loadProgram_pos]
  have hnext := State.nextLine_loadProgram_cons (i.reads.foldl State.presentZero s) (tableLine nbits w) []
  refine ⟨t, ht, ?_, ?_⟩
  · rw [step_of_decode_ok hnext (decode_of_decodeTableWord hi), ht, afterExec_next, hadvance]
  · rw [hframe.cfg, State.loadProgram_cfg, foldl_presentZero_cfg]

/-! ### Independent transactions (R37, R140) -/

/-- The request depends on the variables the operation reads alone. -/
theorem requestOf_congr {i : Instr} {s t : State} (h : ∀ x ∈ i.reads, s.SameAt t x) :
    requestOf i s = requestOf i t := by
  cases i <;> simp_all [Instr.reads, State.SameAt, requestOf]

/-- Deliveries to two different variables may be exchanged. -/
theorem deliver_comm (s : State) {j k : VarNo} {r r' : Response} (h : r.target j ≠ r'.target k) :
    (s.deliver j r).deliver k r' = (s.deliver k r').deliver j r := by
  cases r <;> cases r'
  case words8.words8 | halves16.halves16 | words16.words16 | halves32.halves32 =>
    have hjk : j.val ≠ k.val := fun hv => h (congrArg _ (Fin.ext hv))
    simp only [State.deliver, State.bindR, State.bindA, State.bindWideR, State.bindWideA]
    rw [Vector.set_comm _ _ hjk]
  all_goals rfl

/-- After an independent transaction an operation still makes the request it made, in the same configuration. -/
theorem exec_after_independent {i : Instr} {s t : State} {x : VarRef} {q : Request} (ht : BindsOnly s x t)
    (hx : x ∉ i.reads) (hq : requestOf i s = some q) : exec i t = .next (t.deliver i.dst (serve s.cfg q)) := by
  have hq' : requestOf i t = some q := by
    rw [← requestOf_congr fun y hy => ht.sameAt y fun hyx => hx (hyx ▸ hy), hq]
  rw [exec_of_requestOf_eq_some hq', ht.cfg]

/-- Settles O26: each operation makes the same request in either place, and the two deliveries may be exchanged. -/
theorem independentTransactionsCommute : Obligations.IndependentTransactionsCommute := by
  unfold Obligations.IndependentTransactionsCommute
  intro i j s ti tj ⟨hij, hji, hne⟩ hi hj
  have hframei := exec_bindsOnly hi
  have hframej := exec_bindsOnly hj
  obtain ⟨qi, hqi, rfl⟩ := requestOf_of_exec_eq_next hi
  obtain ⟨qj, hqj, rfl⟩ := requestOf_of_exec_eq_next hj
  refine ⟨_, exec_after_independent hframei hij hqj, ?_⟩
  rw [exec_after_independent hframej hji hqi, deliver_comm]
  rwa [target_serve hqi, target_serve hqj, ne_comm]

end Sys2Proof.Machine

/-!
PROOFS. The high multiply, the Normalizer outside its domain and on a whole transaction, and the ranges of the Reducer
in both of its models (spec 40_lane_primitives.md section 3, 41_normalizer.md, 42_reducer.md).
-/

namespace Sys2Proof.Machine

open Sys2Proof

/-! ### Multiples of q under the high multiply (R61 to R63) -/

theorem mulhiLane_unsigned_q_le (a : Lane32) : (mulhiLane false a 3329#32).toNat ≤ 3328 := by
  have ha := a.isLt
  have h := mulhiLane_unsigned_toNat a 3329#32
  rw [show (3329#32 : Lane32).toNat = 3329 from rfl] at h
  omega

/-- A signed lane lies in [-2^31, 2^31), so its product with q over 2^32 lies in [-1664.5, 1664.5). -/
theorem mulhiLane_signed_q_range (a : Lane32) :
    -1665 ≤ (mulhiLane true a 3329#32).toInt ∧ (mulhiLane true a 3329#32).toInt ≤ 1664 := by
  obtain ⟨hlow, hhigh⟩ := lane32_range a
  have h := mulhiLane_signed_toInt a 3329#32
  rw [show (3329#32 : Lane32).toInt = 3329 from rfl] at h
  omega

/-- Settles O30: recombination, the two readings over the integers, their bounds at q, and the low half read without
sign. -/
theorem evenOddMultiplyIsHighMultiply : Obligations.EvenOddMultiplyIsHighMultiply := by
  unfold Obligations.EvenOddMultiplyIsHighMultiply
  refine ⟨fun L n h sg a c => recombineHi_mulwide h sg a c, mulhiLane_unsigned_toNat, fun a c => ?floor,
    mulhiLane_unsigned_q_le, mulhiLane_signed_q_range, fun L i h a b => ?low⟩
  case floor => rw [mulhiLane_signed_toInt, Int.fdiv_eq_ediv_of_nonneg _ (by decide)]
  case low => rw [mullo32_getElem, mulloLane_eq, BitVec.toNat_mul]

/-! ### The Normalizer (R72 to R78, R81) -/

theorem encodeSelect_wide_norm : encodeSelect .wide .norm = 0b100#3 := by decide

theorem toPorts_normW (R : V32 16) : (Request.normW R).toPorts = .wide 0b100#3 (flat R) 0 0 :=
  congrArg (Ports.wide · (flat R) 0 0) encodeSelect_wide_norm

/-- Settles O17: as O16, the lane function being the same over 16 lanes. -/
theorem normWCompletes : Obligations.NormWCompletes := by
  unfold Obligations.NormWCompletes
  intro rd rs s v hv
  refine ⟨encodeSelect_wide_norm, ⟨0, 0, toPorts_normW v⟩, normVec s.cfg .wide v, exec_normW hv, rfl, rfl,
    normVec_eq_normSteps .wide v, fun i h => ?_⟩
  rw [Fin.getElem_fin, normVec_getElem]
  exact normLane_toInt h

/-- On NormDom the difference does not wrap, so step 2 leaves [-q, q). -/
theorem normR1_range_of_normDom {r : Lane32} (h : NormDom r) :
    -3329 ≤ (normR1 r).toInt ∧ (normR1 r).toInt < 3329 := by
  obtain ⟨hlow, hhigh⟩ := h
  have ht := normT1_toInt_of_ge (r := r) (by omega)
  rw [normR1_eq, apply_ite BitVec.toInt, ht]
  split <;> omega

/-- Settles O35: the selection of step 2, its range, and the exact last step. -/
theorem normalizerCorrectionSteps : Obligations.NormalizerCorrectionSteps := by
  unfold Obligations.NormalizerCorrectionSteps
  exact ⟨normR1_eq, fun _ => normR1_range_of_normDom, normFix_toInt⟩

/-- Settles O36: the closed form of a lane, and the steps on a vector lane by lane. -/
theorem normalizerClosedForm : Obligations.NormalizerClosedForm := by
  unfold Obligations.NormalizerClosedForm
  exact ⟨normDatapath_toInt, fun L r => normSteps_eq_mapLanes r⟩

theorem normDomInt_of_canonInt {z : Int} (h : CanonInt z) : NormDomInt z := by
  obtain ⟨hlow, hhigh⟩ := h
  constructor <;> omega

/-- A canonical lane is its own residue. -/
theorem normLane_of_canonInt (c : Config) (v : Variant) {r : Lane32} (h : CanonInt r.toInt) : normLane c v r = r := by
  apply BitVec.eq_of_toInt_eq
  rw [normLane_toInt_of_normDom c v (normDomInt_of_canonInt h), Int.emod_eq_of_lt h.1 h.2]

theorem normLane_canonInt (c : Config) (v : Variant) {r : Lane32} (h : NormDom r) : CanonInt (normLane c v r).toInt :=
  (normalizerMeetsContract c v r h).1

/-- Settles O38: on NormDom the first pass gives a canonical lane, which the second leaves; outside, three passes. -/
theorem normalizerIdempotentOnDomain : Obligations.NormalizerIdempotentOnDomain := by
  unfold Obligations.NormalizerIdempotentOnDomain
  exact ⟨fun c v _ h => normLane_of_canonInt c v h, fun c v _ h => normLane_of_canonInt c v (normLane_canonInt c v h),
    by decide, by decide, by decide⟩

/-- Settles O39: each case of the closed form moves the lane by q or by 2^32 - q. -/
theorem normalizerOutsideDomain : Obligations.NormalizerOutsideDomain := by
  unfold Obligations.NormalizerOutsideDomain
  intro r hout
  obtain ⟨hlow, hhigh⟩ := lane32_range r
  rw [normDatapath_toInt]
  have hcases : r.toInt < -3329 ∨ 6657 < r.toInt := by
    rw [NormDom, NormDomInt] at hout
    omega
  unfold normInt CanonInt
  refine ⟨?_, fun _ => ?_, fun _ => ⟨?_, ?_⟩⟩
  all_goals split_ifs <;> omega

/-! ### The Reducer's step list over the integers (R85 to R95) -/

/-- The u of the configuration's reading of the widening multiply, as an integer (R84, R95). -/
def redUOf (c : Config) (v : Lane32) : Int :=
  if c.widenSigned then redUSignedInt c.m.toInt v.toInt else redUInt c.m.toInt v.toInt

theorem redDatapath_toInt_of_redUOf (c : Config) (v : Lane32) :
    (redDatapath c v).toInt = wrapInt 32 (v.toInt - redUOf c v * 3329) := by
  rw [redDatapath_toInt, redUOf]
  split <;> rfl

theorem redUOf_range_unsigned {c : Config} (hw : c.widenSigned = false) (v : Lane32) :
    0 ≤ redUOf c v ∧ redUOf c v ≤ 3328 := by
  rw [redUOf, hw, if_neg Bool.false_ne_true, ← redU_redT_toNat hw]
  have hu := redU_toNat_le hw (redT c v)
  omega

theorem redU_signed_range {c : Config} (hw : c.widenSigned = true) (t : Lane32) :
    -1665 ≤ (redU c t).toInt ∧ (redU c t).toInt ≤ 1664 := by
  rw [redU, hw]
  exact mulhiLane_signed_q_range t

theorem redUOf_range_signed {c : Config} (hw : c.widenSigned = true) (v : Lane32) :
    -1665 ≤ redUOf c v ∧ redUOf c v ≤ 1664 := by
  rw [redUOf, hw, if_pos rfl, ← redU_redT_signed_toInt hw]
  exact redU_signed_range hw _

/-- Where the difference fits 32 bits the result is the lane less a multiple of q. -/
theorem redDatapath_toInt_of_fits {c : Config} {v : Lane32} (hlow : -2147483648 ≤ v.toInt - redUOf c v * 3329)
    (hhigh : v.toInt - redUOf c v * 3329 ≤ 2147483647) :
    (redDatapath c v).toInt = v.toInt - redUOf c v * 3329 := by
  rw [redDatapath_toInt_of_redUOf, wrapInt]
  exact Int.bmod_eq_of_le (by omega) (by omega)

/-- Settles O41: t is read with its sign, and so is u. -/
theorem reducerSignedAlternative : Obligations.ReducerSignedAlternative := by
  unfold Obligations.ReducerSignedAlternative
  intro c v hw
  obtain ⟨hlow, hhigh⟩ := redU_signed_range hw (redT c v)
  exact ⟨redU_redT_signed_toInt hw v, hlow, hhigh, by rw [redDatapath_toInt, hw, if_pos rfl]⟩

/-- Settles O42: the even and odd high halves recombine to the per-lane high multiply. -/
theorem reducerEvenOddSteps : Obligations.ReducerEvenOddSteps := by
  unfold Obligations.ReducerEvenOddSteps
  exact fun L n h c r => redSteps_eq_mapLanes h c r

/-- Settles O43: in either reading the range of u says from where on the difference fits. -/
theorem reducerKeepsResidueClass : Obligations.ReducerKeepsResidueClass := by
  unfold Obligations.ReducerKeepsResidueClass
  refine ⟨fun c v u hu hlow hhigh => ?fits, fun c v hw hv => ?unsigned, fun c v hw hv hv' => ?signed⟩
  case fits =>
    obtain rfl : u = redUOf c v := hu
    have h := redDatapath_toInt_of_fits hlow hhigh
    exact ⟨h, by omega⟩
  case unsigned =>
    obtain ⟨-, hv'⟩ := lane32_range v
    obtain ⟨hu, hu'⟩ := redUOf_range_unsigned hw v
    have h := redDatapath_toInt_of_fits (c := c) (v := v) (by omega) (by omega)
    refine ⟨?_, ?_, ?_⟩ <;> omega
  case signed =>
    obtain ⟨hu, hu'⟩ := redUOf_range_signed hw v
    have h := redDatapath_toInt_of_fits (c := c) (v := v) (by omega) (by omega)
    refine ⟨?_, ?_, ?_⟩ <;> omega

/-- Unsigned, at most 3328 q are subtracted: a lane from 11085570 up stays above NormDom, and a lane below -q stays
below it or wraps to the top of the 32-bit range. -/
theorem redDatapath_not_normDom {c : Config} {v : Lane32} (hw : c.widenSigned = false)
    (hv : 11085570 ≤ v.toInt ∨ v.toInt < -3329) : ¬ NormDom (redDatapath c v) := by
  obtain ⟨hlow, hhigh⟩ := lane32_range v
  obtain ⟨hu, hu'⟩ := redUOf_range_unsigned hw v
  rw [NormDom, NormDomInt]
  by_cases hfits : -2147483648 ≤ v.toInt - redUOf c v * 3329
  · have h := redDatapath_toInt_of_fits (c := c) (v := v) hfits (by omega)
    omega
  · have h : (redDatapath c v).toInt = v.toInt - redUOf c v * 3329 + 4294967296 := by
      rw [redDatapath_toInt_of_redUOf, wrapInt, ← Int.add_bmod_right]
      exact Int.bmod_eq_of_le (by omega) (by omega)
    omega

/-- Settles O44: -3330 lies in RedDom for every bound of at least 3330, and its result misses NormDom. -/
theorem reducerRangeClaimRefuted : Obligations.ReducerRangeClaimRefuted := by
  unfold Obligations.ReducerRangeClaimRefuted
  refine ⟨fun c v => redDatapath_not_normDom, fun c bound hw hbound hcontract => ?_⟩
  have hval : (-3330#32 : Lane32).toInt = -3330 := by decide
  have hdom : RedDom bound (-3330#32) := by
    rw [RedDom, hval]
    omega
  exact redDatapath_not_normDom hw (.inr (by rw [hval]; decide)) (hcontract _ hdom).2

/-! ### The hardware's M (R85) -/

/-- The hardware's M is odd, so it has an inverse modulo 2^32. -/
theorem mLiteral_mul_inverse : Config.mLiteral * 528466203#32 = 1#32 := by decide

theorem redT_eq_zero_iff {c : Config} (hm : c.m = Config.mLiteral) (v : Lane32) : redT c v = 0#32 ↔ v = 0#32 := by
  rw [redT, mulloLane_eq, hm]
  refine ⟨fun h => ?_, fun h => by rw [h, BitVec.zero_mul]⟩
  calc
    v = v * Config.mLiteral * 528466203#32 := by rw [BitVec.mul_assoc, mLiteral_mul_inverse, BitVec.mul_one]
    _ = 0#32 := by rw [h, BitVec.zero_mul]

theorem redT_toNat_hardware {c : Config} (hm : c.m = Config.mLiteral) (v : Lane32) :
    (redT c v).toNat = v.toNat * 1290515 % 4294967296 := by
  rw [redT, mulloLane_eq, hm, BitVec.toNat_mul]
  rfl

/-- Up to 3328 the product with M fits 32 bits, and M * q is 2^32 and a small rest. -/
theorem redU_hardware_of_le {c : Config} (hm : c.m = Config.mLiteral) (hw : c.widenSigned = false) {v : Lane32}
    (hv : v.toNat ≤ 3328) : redU c (redT c v) = v := by
  have ht : (redT c v).toNat = v.toNat * 1290515 := by
    rw [redT_toNat_hardware hm, Nat.mod_eq_of_lt (by omega)]
  apply BitVec.eq_of_toNat_eq
  rw [redU_toNat hw, ht]
  omega

/-- Settles O45: M is invertible; up to 3328 u is the lane, and at 3329 the product with M wraps to a small t. -/
theorem reducerWithHardwareM : Obligations.ReducerWithHardwareM := by
  unfold Obligations.ReducerWithHardwareM
  refine fun c v hm => ⟨redT_eq_zero_iff hm v, fun hw => ⟨fun hv => ?small, fun hv => ?wrapped⟩⟩
  case small =>
    have hu := redU_hardware_of_le hm hw hv
    have hnonneg : v.toInt = v.toNat := BitVec.toInt_eq_toNat_of_lt (by omega)
    have h := redDatapath_toInt_eq_wrapInt c v
    rw [hu, wrapInt, Int.bmod_eq_of_le (by omega) (by omega)] at h
    exact ⟨hu, by omega⟩
  case wrapped =>
    apply BitVec.eq_of_toNat_eq
    rw [redU_toNat hw, redT_toNat_hardware hm, hv]
    rfl

/-! ### The CONTRACT model, and the readings on a domain (R94, U1, U2) -/

/-- A value of [-q, 2q) is its residue moved by -q, 0 or q. -/
theorem exists_choice_of_normDom {x y : Lane32} (hmod : (y.toInt - x.toInt) % 3329 = 0) (hy : NormDom y) :
    ∃ k : Fin 3, y = wrap32 (x.toInt % 3329 + 3329 * ((k.val : Int) - 1)) := by
  obtain ⟨hlow, hhigh⟩ := hy
  have hval (k : Fin 3) (hk : y.toInt = x.toInt % 3329 + 3329 * ((k.val : Int) - 1)) :
      y = wrap32 (x.toInt % 3329 + 3329 * ((k.val : Int) - 1)) :=
    BitVec.eq_of_toInt_eq (by rw [← hk, wrap32_toInt_of_range] <;> omega)
  obtain h | h | h : y.toInt = x.toInt % 3329 - 3329 ∨ y.toInt = x.toInt % 3329 ∨ y.toInt = x.toInt % 3329 + 3329 := by
    omega
  · exact ⟨0, hval 0 (by rw [h]; norm_num; ring)⟩
  · exact ⟨1, hval 1 (by rw [h]; norm_num)⟩
  · exact ⟨2, hval 2 (by rw [h]; norm_num)⟩

/-- Settles O46: the contract, the form of the choice, its exhaustiveness, and one function for both variants. -/
theorem contractReducerIsExactlyContract : Obligations.ContractReducerIsExactlyContract := by
  unfold Obligations.ContractReducerIsExactlyContract
  refine ⟨fun c v hm => redLane_meets_contract v hm, fun c v x hm hdom => redLane_eq_contract hm hdom,
    fun x y => exists_choice_of_normDom, fun c x _ hd => ?_⟩
  rw [redLane_eq_redFn (.inl hd), redLane_eq_redFn (.inl hd)]

/-- Settles O47: the Reducer lands in NormDom without leaving the residue class, and there the Normalizer gives the
residue. -/
theorem contractNormalizedIsRemainder : Obligations.ContractNormalizedIsRemainder := by
  unfold Obligations.ContractNormalizedIsRemainder
  intro c v x hm hdom
  obtain ⟨hmod, hnorm⟩ := redLane_meets_contract v hm x hdom
  rw [normLane_toInt_of_normDom c v hnorm]
  exact Int.emod_eq_emod_iff_emod_sub_eq_zero.mpr hmod

/-- Settles O48: inside its domain a lane takes neither the free value of U1 nor that of U2. -/
theorem readingsAgreeInsideDomain : Obligations.ReadingsAgreeInsideDomain := by
  unfold Obligations.ReadingsAgreeInsideDomain
  refine ⟨fun c v dr nm r h => ?norm, fun c v dr r h => ?red⟩
  case norm => rw [normLane_eq_datapath (.inr h), normLane_eq_datapath (.inr h)]
  case red =>
    rw [redLane_eq_redFn (.inr h), redLane_eq_redFn (c := { c with domainReading := dr }) (.inr h)]
    rfl

end Sys2Proof.Machine

/-!
PROOFS. The two widths and the scalar reference (spec 43_butterfly.md section 4), lane independence and zero, and the
invariant of a run.
-/

namespace Sys2Proof.Machine

open Sys2Proof

/-! ### Lane independence (R89, R107) -/

section
variable {m n : Nat} (hm : m = 2 * n) (c : Config) (v : Variant)

theorem branchOut_congr (b : Branch) {x x' w w' : V16 m} {i : Nat} (h : i < n) (hx0 : x[2 * i] = x'[2 * i])
    (hx1 : x[2 * i + 1] = x'[2 * i + 1]) (hw0 : w[2 * i] = w'[2 * i]) (hw1 : w[2 * i + 1] = w'[2 * i + 1]) :
    (branchOut hm c v b x w)[i] = (branchOut hm c v b x' w')[i] := by
  simp only [branchOut_getElem, branchNorm_getElem, hx0, hx1, hw0, hw1]

theorem bfly_congr (h4 : n % 4 = 0) (ho : c.packOrder v = .elementInterleave) {x w1 w2 x' w1' w2' : V16 m} {i : Nat}
    (h : i < n) (hx0 : x[2 * i] = x'[2 * i]) (hx1 : x[2 * i + 1] = x'[2 * i + 1]) (h10 : w1[2 * i] = w1'[2 * i])
    (h11 : w1[2 * i + 1] = w1'[2 * i + 1]) (h20 : w2[2 * i] = w2'[2 * i]) (h21 : w2[2 * i + 1] = w2'[2 * i + 1]) :
    (bfly hm h4 c v x w1 w2)[2 * i] = (bfly hm h4 c v x' w1' w2')[2 * i] ∧
    (bfly hm h4 c v x w1 w2)[2 * i + 1] = (bfly hm h4 c v x' w1' w2')[2 * i + 1] := by
  simp only [bfly_even hm h4 ho _ _ _ i h, bfly_odd hm h4 ho _ _ _ i h]
  exact ⟨branchOut_congr hm c v .one h hx0 hx1 h10 h11, branchOut_congr hm c v .two h hx0 hx1 h20 h21⟩

end

/-- Settles O27: NORM and RED map a lane function, and each branch of the kernel reads one lane pair. -/
theorem lanesAreIndependent : Obligations.LanesAreIndependent := by
  unfold Obligations.LanesAreIndependent
  refine ⟨fun c v L r r' i h hr => ?_, fun c x w1 w2 x' w1' w2' i h ho => ?_, fun c x w1 w2 x' w1' w2' i h ho => ?_⟩
  · simp only [normVec_getElem, redVec_getElem, hr, and_self]
  · exact bfly_congr _ c .narrow _ ho h
  · exact bfly_congr _ c .wide _ ho h

/-! ### Zero (R68 law 9, R115, R116) -/

theorem redDatapath_zero (c : Config) : redDatapath c 0#32 = 0#32 := by
  have ht : redT c 0#32 = 0#32 := by rw [redT, mulloLane_eq, BitVec.zero_mul]
  have hu : redU c 0#32 = 0#32 := by
    rw [redU]
    cases c.widenSigned <;> decide
  rw [redDatapath, ht, hu]
  decide

theorem normDatapath_zero : normDatapath 0#32 = 0#32 := by decide

theorem narrowLane_zero (mode : PackMode) : narrowLane mode 0#32 = 0#16 := by
  cases mode <;> decide

section
variable {c : Config} (hc : FollowsDatapath c)
include hc

theorem branchOut_zero {m n : Nat} (hm : m = 2 * n) (v : Variant) (b : Branch) (w : V16 m) (i : Nat) (h : i < n) :
    (branchOut hm c v b (Vector.replicate m 0#16) w)[i] = 0#16 := by
  have ⟨hreading, _, _, hwrap⟩ := hc
  have hmadd (w0 w1 : Lane16) : maddLane c 0#16 0#16 w0 w1 = 0#32 := by
    rw [maddLane_eq_wrap _ _ _ _ hwrap, BitVec.toInt_zero, zero_mul, zero_mul]
    rfl
  rw [branchOut_getElem, branchLane_eq (.inl hreading), branchNorm_getElem, Vector.getElem_replicate,
    Vector.getElem_replicate, hmadd, redLane_eq_redDatapath hc, redDatapath_zero, normLane_eq_normDatapath hc,
    normDatapath_zero, narrowLane_zero]

theorem bfly_zero {m n : Nat} (hm : m = 2 * n) (h4 : n % 4 = 0) (v : Variant) (w1 w2 : V16 m) :
    bfly hm h4 c v (Vector.replicate m 0#16) w1 w2 = Vector.replicate m 0#16 := by
  ext j hj : 1
  rw [Vector.getElem_replicate]
  exact arrange_forall hm h4 _ _ _ (· = 0#16) (branchOut_zero hc hm v .one w1) (branchOut_zero hc hm v .two w2) j hj

end

/-- Settles O53: zero through the four steps, through the step list, and through every lane of the kernel. -/
theorem zeroMapsToZero : Obligations.ZeroMapsToZero := by
  unfold Obligations.ZeroMapsToZero
  exact fun c hc => ⟨normDatapath_zero, redDatapath_zero c, bfly_zero hc _ _ .narrow, bfly_zero hc _ _ .wide⟩

/-! ### The scalar reference (R94, R111) -/

/-- Where nothing is clamped every pack mode wraps the lane to 16 bits. -/
theorem narrowLane_eq_wrap16 (mode : PackMode) {v : Lane32} (h1 : 0 ≤ v.toInt) (h2 : v.toInt ≤ 32767) :
    narrowLane mode v = wrap16 v.toInt := by
  rw [← narrowTrunc_eq_wrap16]
  cases mode with
  | trunc => rfl
  | ssat => exact narrowSsat_eq_narrowTrunc (by omega) h2
  | usat => exact narrowUsat_eq_narrowTrunc h1 (by omega)

section
variable {m n : Nat} (hm : m = 2 * n) {c : Config} (hc : MeetsContract c) (v : Variant)
include hc

/-- A canonical lane pair is summed exactly, in RedDom, so its normalized lane is the sum modulo q. -/
theorem normalized_toInt_of_pairDom {x0 x1 w0 w1 : Lane16} (h : PairDom x0 x1 w0 w1) :
    (normLane c v (redLane c v (maddLane c x0 x1 w0 w1))).toInt
      = (x0.toInt * w0.toInt + x1.toInt * w1.toInt) % 3329 := by
  obtain ⟨hmodel, hbound⟩ := hc
  obtain ⟨hlow, hhigh⟩ := maddLane_range_of_pairDom c h
  rw [contractNormalizedIsRemainder c v _ hmodel ⟨by omega, by omega⟩, maddLane_toInt_of_pairDom c h]

theorem branchOut_eq_refBranch (b : Branch) {x w : V16 m} (hx : CanonVec x) (hw : CanonVec w) :
    branchOut hm c v b x w = refBranch hm x w := by
  ext i hi : 1
  have hdom : PairDom x[2 * i] x[2 * i + 1] w[2 * i] w[2 * i + 1] :=
    ⟨hx ⟨2 * i, by omega⟩, hx ⟨2 * i + 1, by omega⟩, hw ⟨2 * i, by omega⟩, hw ⟨2 * i + 1, by omega⟩⟩
  have hnorm := normalized_toInt_of_pairDom hc v hdom
  rw [branchOut_getElem, branchLane_eq (.inr hdom), branchNorm_getElem,
    narrowLane_eq_wrap16 _ (by omega) (by omega), hnorm, refBranch_getElem, refLane]

/-- In every pack mode, lane order and reading the kernel arranges the two reference branches. -/
theorem bfly_eq_arrange_refBranch (h4 : n % 4 = 0) {x w1 w2 : V16 m} (h : BflyDom x w1 w2) :
    bfly hm h4 c v x w1 w2 = arrange hm h4 (c.packOrder v) (refBranch hm x w1) (refBranch hm x w2) := by
  obtain ⟨hx, h1, h2⟩ := h
  rw [bfly, branchOut_eq_refBranch hm hc v .one hx h1, branchOut_eq_refBranch hm hc v .two hx h2]

theorem bfly_eq_bflyRef (h4 : n % 4 = 0) (ho : c.packOrder v = .elementInterleave) {x w1 w2 : V16 m}
    (h : BflyDom x w1 w2) : bfly hm h4 c v x w1 w2 = bflyRef hm x w1 w2 := by
  rw [bfly_eq_arrange_refBranch hm hc v h4 h, ho, arrange, bflyRef]

theorem bfly_canonVec (h4 : n % 4 = 0) {x w1 w2 : V16 m} (h : BflyDom x w1 w2) :
    CanonVec (bfly hm h4 c v x w1 w2) := by
  have hbranch (w : V16 m) (i : Nat) (hi : i < n) : Canon16 (refBranch hm x w)[i] := by
    rw [refBranch_getElem]
    exact refLane_canonical _ _ _ _
  rw [bfly_eq_arrange_refBranch hm hc v h4 h]
  exact fun j => arrange_forall hm h4 _ _ _ Canon16 (hbranch w1) (hbranch w2) j.val j.isLt

end

/-- Settles O50: the operation completes with the kernel of its operands, which is the reference. -/
theorem contractBflyIsScalarReference : Obligations.ContractBflyIsScalarReference := by
  unfold Obligations.ContractBflyIsScalarReference
  refine ⟨fun ax aw1 aw2 s x w1 w2 hc ho hx h1 h2 hdom => ?narrow, fun ax aw1 aw2 s x w1 w2 hc ho hx h1 h2 hdom => ?wide⟩
  case narrow => rw [exec_bflyN hx h1 h2, bflyN, bfly_eq_bflyRef _ hc .narrow _ ho hdom, bflyRefN]
  case wide => rw [exec_bflyW hx h1 h2, bflyW, bfly_eq_bflyRef _ hc .wide _ ho hdom, bflyRefW]

/-! ### The invariant of a run (R24, R94, R110) -/

theorem allCanonical_advance {s : State} : s.advance.AllCanonical ↔ s.AllCanonical := Iff.rfl

section
variable {s : State} (hs : s.AllCanonical)
include hs

theorem allCanonical_bindA (k : VarNo) {v : V16 16} (hv : CanonVec v) : (s.bindA k v).AllCanonical := by
  refine ⟨fun j x hx => ?_, hs.2⟩
  rw [State.getA_bindA] at hx
  split at hx
  · exact Option.some.inj hx ▸ hv
  · exact hs.1 j x hx

theorem allCanonical_bindWideA (k : VarNo) {v : V16 32} (hv : CanonVec v) : (s.bindWideA k v).AllCanonical := by
  refine ⟨hs.1, fun j x hx => ?_⟩
  rw [State.getWideA_bindWideA] at hx
  split at hx
  · exact Option.some.inj hx ▸ hv
  · exact hs.2 j x hx

/-- NORM and RED bind no coefficient variable, and BFLY binds one to a canonical vector. -/
theorem exec_keeps_allCanonical {i : Instr} {t : State} (hc : MeetsContract s.cfg) (h : exec i s = .next t) :
    t.AllCanonical := by
  cases exec_next h with
  | normN | redN | normW | redW => exact hs
  | bflyN hx h1 h2 =>
    exact allCanonical_bindA hs _ (bfly_canonVec _ hc .narrow _ ⟨hs.1 _ _ hx, hs.1 _ _ h1, hs.1 _ _ h2⟩)
  | bflyW hx h1 h2 =>
    exact allCanonical_bindWideA hs _ (bfly_canonVec _ hc .wide _ ⟨hs.2 _ _ hx, hs.2 _ _ h1, hs.2 _ _ h2⟩)

end

/-- Settles O58: the position goes on by one from inside the list, and the operation keeps the variables canonical. -/
theorem invariantKeptByEveryStep : Obligations.InvariantKeptByEveryStep := by
  unfold Obligations.InvariantKeptByEveryStep
  intro s t ⟨_, hcanonical⟩ hstep
  obtain ⟨hcfg, -, -, hpos, -⟩ := stepKeepsConstantsAndList s t hstep
  obtain ⟨l, i, u, -, -, hu, rfl⟩ := step_next hstep
  refine ⟨hpos, fun hc => ?_⟩
  rw [hcfg] at hc
  exact allCanonical_advance.mpr (exec_keeps_allCanonical (hcanonical hc) hc hu)

theorem allCanonical_reset : State.reset.AllCanonical := by
  constructor
  · intro k x hx
    cases (State.getA_reset k).symm.trans hx
  · intro k x hx
    cases (State.getWideA_reset k).symm.trans hx

/-- Settles O57: at reset no variable holds a value, and the position is at the end of the empty list. -/
theorem resetMeetsInvariant : Obligations.ResetMeetsInvariant := by
  unfold Obligations.ResetMeetsInvariant
  exact ⟨⟨Nat.zero_le _, fun _ => allCanonical_reset⟩, rfl, rfl, rfl⟩

/-! ### The two widths (R81, R89, R113) -/

section
variable {c : Config} (hd : c.domainReading = .determinate)
include hd

theorem normVec_wide_eq_narrow {L : Nat} (r : V32 L) : normVec c .wide r = normVec c .narrow r := by
  ext i hi : 1
  rw [normVec_getElem, normVec_getElem, normLane_eq_normFn (.inl hd), normLane_eq_normFn (.inl hd)]

theorem redVec_wide_eq_narrow {L : Nat} (r : V32 L) : redVec c .wide r = redVec c .narrow r := by
  ext i hi : 1
  rw [redVec_getElem, redVec_getElem, redLane_eq_redFn (.inl hd), redLane_eq_redFn (.inl hd)]

theorem branchNorm_wide_eq_narrow {m n : Nat} (hm : m = 2 * n) (x w : V16 m) :
    branchNorm hm c .wide x w = branchNorm hm c .narrow x w := by
  rw [branchNorm, redVec_wide_eq_narrow hd, normVec_wide_eq_narrow hd, ← branchNorm]

/-- In the determinate reading a branch is one function of its vectors where the two narrowings of its normalized lanes
agree. -/
theorem branchOut_wide_eq_narrow {m n : Nat} (hm : m = 2 * n) (b : Branch) {x w : V16 m}
    (hnarrow : ∀ (i : Nat) (h : i < n), narrowLane c.packModeW (branchNorm hm c .narrow x w)[i]
      = narrowLane c.packModeN (branchNorm hm c .narrow x w)[i]) :
    branchOut hm c .wide b x w = branchOut hm c .narrow b x w := by
  ext i hi : 1
  rw [branchOut_getElem, branchOut_getElem, branchLane_eq (.inl hd), branchLane_eq (.inl hd),
    branchNorm_wide_eq_narrow hd]
  exact hnarrow i hi

end

theorem mapLanes_joinWords (f : Lane32 → Lane32) (a b : V32 8) :
    mapLanes f (joinWords a b) = joinWords (mapLanes f a) (mapLanes f b) := by
  ext i hi : 1
  rw [mapLanes_getElem, joinWords_getElem, joinWords_getElem, apply_dite f]
  simp only [mapLanes_getElem]

/-- Settles O52: in the determinate reading each unit maps one lane function, and that goes through both halves. -/
theorem wideLanesAreNarrowLanes : Obligations.WideLanesAreNarrowLanes := by
  unfold Obligations.WideLanesAreNarrowLanes
  intro c a b hd
  rw [normVec_wide_eq_narrow hd, redVec_wide_eq_narrow hd]
  exact ⟨mapLanes_joinWords _ a b, mapLanes_joinWords _ a b⟩

/-- Two narrowings that do not saturate unsigned agree on [-32768, 32767]. -/
theorem narrowLane_eq_of_ne_usat {mode mode' : PackMode} (h : mode ≠ .usat) (h' : mode' ≠ .usat) {v : Lane32}
    (h1 : -32768 ≤ v.toInt) (h2 : v.toInt ≤ 32767) : narrowLane mode v = narrowLane mode' v := by
  have htrunc {mode : PackMode} (h : mode ≠ .usat) : narrowLane mode v = narrowTrunc v := by
    cases mode with
    | trunc => rfl
    | ssat => exact narrowSsat_eq_narrowTrunc h1 h2
    | usat => exact absurd rfl h
  rw [htrunc h, htrunc h']

/-- A branch over two halves is the branch over each: no lane pair lies across the middle. -/
theorem branchOut_joinHalves (c : Config) (v : Variant) (b : Branch) (xa xb wa wb : V16 16) :
    branchOut (n := 16) (by decide) c v b (joinHalves xa xb) (joinHalves wa wb)
      = concatLanes (n := 8) (by decide) (branchOut (by decide) c v b xa wa) (branchOut (by decide) c v b xb wb) := by
  ext i hi : 1
  by_cases hlow : i < 8
  · have h0 : 2 * i < 16 := by omega
    have h1 : 2 * i + 1 < 16 := by omega
    simp only [branchOut_getElem, branchNorm_getElem, joinHalves_getElem, concatLanes_getElem, hlow, h0, h1,
      dite_true]
  · have h0 : ¬ 2 * i < 16 := by omega
    have h1 : ¬ 2 * i + 1 < 16 := by omega
    have e0 : 2 * i - 16 = 2 * (i - 8) := by omega
    have e1 : 2 * i + 1 - 16 = 2 * (i - 8) + 1 := by omega
    simp only [branchOut_getElem, branchNorm_getElem, joinHalves_getElem, concatLanes_getElem, hlow, h0, h1,
      dite_false, e0, e1]

theorem interleave_concatLanes (a1 b1 a2 b2 : V16 8) :
    interleave (m := 32) (n := 16) (by decide) (concatLanes (by decide) a1 b1) (concatLanes (by decide) a2 b2)
      = joinHalves (interleave (by decide) a1 a2) (interleave (by decide) b1 b2) := by
  ext j hj : 1
  by_cases hlow : j < 16
  · have hhalf : j / 2 < 8 := by omega
    simp only [interleave_getElem, concatLanes_getElem, joinHalves_getElem, hlow, hhalf, dite_true]
  · have hhalf : ¬ j / 2 < 8 := by omega
    have hparity : (j - 16) % 2 = j % 2 := by omega
    have hdiv : (j - 16) / 2 = j / 2 - 8 := by omega
    simp only [interleave_getElem, concatLanes_getElem, joinHalves_getElem, hlow, hhalf, hparity, hdiv, dite_false]

/-- BFLY.W of two halves is BFLY.N of each where variant W's branches on a half are those of variant N. -/
theorem bflyW_joinHalves {c : Config} (hoN : c.packOrderN = .elementInterleave) (hoW : c.packOrderW = .elementInterleave)
    {xa xb ua ub va vb : V16 16}
    (hbranch : ∀ xw ∈ [(xa, ua), (xa, va), (xb, ub), (xb, vb)], ∀ b,
      branchOut (n := 8) (by decide) c .wide b xw.1 xw.2 = branchOut (by decide) c .narrow b xw.1 xw.2) :
    bflyW c (joinHalves xa xb) (joinHalves ua ub) (joinHalves va vb)
      = joinHalves (bflyN c xa ua va) (bflyN c xb ub vb) := by
  have hua := hbranch (xa, ua) (by simp) .one
  have hva := hbranch (xa, va) (by simp) .two
  have hub := hbranch (xb, ub) (by simp) .one
  have hvb := hbranch (xb, vb) (by simp) .two
  simp only [bflyW, bflyN, bfly, Config.packOrder, hoN, hoW, arrange, branchOut_joinHalves, interleave_concatLanes, hua,
    hva, hub, hvb]

/-- Settles O51: the branches of the two variants agree on each half: by equal modes, by lanes no mode changes, or
because both are the reference. -/
theorem crossWidthEquivalence : Obligations.CrossWidthEquivalence := by
  unfold Obligations.CrossWidthEquivalence
  intro c xa xb ua ub va vb hoN hoW hcase
  refine bflyW_joinHalves hoN hoW fun xw hxw b => ?_
  obtain ⟨hd, hmode | ⟨hN, hW, hrange⟩⟩ | ⟨hc, ⟨hxa, hua, hva⟩, ⟨hxb, hub, hvb⟩⟩ := hcase
  · exact branchOut_wide_eq_narrow hd _ b fun i h => by rw [hmode]
  · refine branchOut_wide_eq_narrow hd _ b fun i h => ?_
    obtain ⟨hlow, hhigh⟩ := hrange xw hxw ⟨i, h⟩
    exact narrowLane_eq_of_ne_usat hW hN hlow hhigh
  · have hdom : CanonVec xw.1 ∧ CanonVec xw.2 := by
      simp only [List.mem_cons, List.not_mem_nil, or_false] at hxw
      obtain rfl | rfl | rfl | rfl := hxw
      exacts [⟨hxa, hua⟩, ⟨hxa, hva⟩, ⟨hxb, hub⟩, ⟨hxb, hvb⟩]
    rw [branchOut_eq_refBranch _ hc .wide b hdom.1 hdom.2, branchOut_eq_refBranch _ hc .narrow b hdom.1 hdom.2]

/-! ### The hardware misses the reference (R112, R113, R118) -/

theorem canonVec_joinHalves {a b : V16 16} (ha : CanonVec a) (hb : CanonVec b) : CanonVec (joinHalves a b) := by
  intro i
  rw [Fin.getElem_fin, joinHalves_getElem]
  split
  case isTrue h => exact ha ⟨i, h⟩
  case isFalse h => exact hb ⟨i - 16, by omega⟩

theorem bflyDom_joinHalves {xa xb ua ub va vb : V16 16} (ha : BflyDom xa ua va) (hb : BflyDom xb ub vb) :
    BflyDom (joinHalves xa xb) (joinHalves ua ub) (joinHalves va vb) :=
  ⟨canonVec_joinHalves ha.1 hb.1, canonVec_joinHalves ha.2.1 hb.2.1, canonVec_joinHalves ha.2.2 hb.2.2⟩

/-- X of the source's scenario (R118): 100 times the lane number. -/
def scenarioOperand : V16 16 := Vector.ofFn fun i => BitVec.ofNat 16 (100 * i.val)

theorem scenario_bflyDom : BflyDom scenarioOperand (splat 16 173#16) (splat 16 229#16) := by decide

/-- A vector that differs from another in a lane is another vector. -/
theorem ne_of_lane {α : Type} {L : Nat} {y z : Vector α L} (i : Nat) (h : i < L) (hne : y[i] ≠ z[i]) : y ≠ z :=
  fun heq => hne (heq ▸ rfl)

/-- Settles O55: the source's own scenario, and its lanes twice for variant W; lane 0 of the reference is 655. -/
theorem claimsRefutedOnHardware : Obligations.ClaimsRefutedOnHardware := by
  unfold Obligations.ClaimsRefutedOnHardware
  exact ⟨scenarioOperand, splat 16 173#16, splat 16 229#16, scenario_bflyDom,
    bflyDom_joinHalves scenario_bflyDom scenario_bflyDom, ne_of_lane 0 (by decide) (by decide),
    ne_of_lane 0 (by decide) (by decide), by decide, by decide⟩

end Sys2Proof.Machine
